-- ==== Sys2Proof/Word.lean ====
section
/-! DEFINITION. The words of NIDUC-RS CORE: the command word and the scalar register value (R70, R21), the entry of
a table or a vector register (R22, R50), and the register numbers of the two files (R71, R26). -/

namespace Sys2Proof

/-- An 8-bit entry of a vector register, of `EXP` or of `GEN` (R22, R50). -/
abbrev Byte := BitVec 8

/-- A 32-bit command word or scalar register value; bit 31 is the most significant (R70, R21). -/
abbrev Word := BitVec 32

/-- The number of a scalar register, `s0` .. `s15` (R21, R71). -/
abbrev SReg := Fin 16

/-- The number of a vector register, `v0` .. `v15` (R22, R71). -/
abbrev VReg := Fin 16

end Sys2Proof
end

