-- ==== Sys2Proof/Config.lean ====
section
/-! DEFINITION. The parameters of R6 that this hardware fixes, and the free values: constants with no body, one for
each value the spec leaves open. -/

namespace Sys2Proof

/-- `M_MIN`, the smallest field degree accepted (R6). -/
def Config.mMin : Nat := 2

/-- `M_MAX`, the largest field degree accepted (R6). -/
def Config.mMax : Nat := 8

/-- The constant `ID` (R30). -/
def Config.ident : BitVec 32 := 0x4E524301

/-- The constant `FEAT` of this hardware: all three optional units are present (R29, R37). -/
def Config.feat : BitVec 3 := 7

/-- The constant `VLMAX` of this hardware, the capacity of a vector register (R22, R29). -/
def Config.vlmax : BitVec 16 := 512

/-- The constant `RSP` of this hardware, the prime of the RS unit's field (R29, R230). -/
def Config.rsp : BitVec 8 := 31

/-- `DEFAULT_PRIM` of this hardware, the default primitive polynomials of the degrees 2 to 8 in this order (R6, R101; log
entry 13). -/
def Config.defaultPrims : Vector Nat 7 := #v[7, 11, 19, 37, 67, 137, 285]

/-- Free value: the data bits `HostReadS` returns for an unwritten scalar register (R45, R42; log entry 4). -/
opaque Config.freeScalar : Nat → BitVec 32

/-- Free value: the entries `HostReadV` returns for an unwritten vector register (R45, R42; log entry 4). -/
opaque Config.freeVector : Nat → List (BitVec 8)

/-- Free value: an entry of `EXP` that nothing has written, which no reachable state reads (R33, R51, U4; log entry 8). -/
opaque Config.unlistedExp : Nat → BitVec 8

/-- Free value: an entry of `LOG` that nothing has written, which no reachable state reads (R34, R52; log entry 8). -/
opaque Config.unlistedLog : Nat → BitVec 9

/-- Free value: an entry of `GEN` that nothing has written, which no reachable state reads (R35, R53; log entry 8). -/
opaque Config.unlistedGen : Nat → BitVec 8

/-- Free value: the function `gfInv` at 0, which has no value and which no caller reaches (R111; log entry 9). -/
opaque Config.inverseOfZero : Nat

/-- Free value: `fInv` of a number with no inverse, which no caller reaches (R231; log entry 9). -/
opaque Config.noModInverse : Nat

end Sys2Proof
end

