-- ==== Sys2Proof/Machine/State.lean ====
section
/-! DEFINITION. The architectural state (R20), the host port operations still to be performed (R45), the fifteen
errors (R301), the reasons a step can stop, and the state after reset (R42). -/

namespace Sys2Proof.Machine

/-- One of the element-indexed memories (R50): the entries that hold a value, by entry index, indices strictly rising.
An index that is not listed holds no value. `Memory 8` is a list of `Host.Cell`. -/
abbrev Memory (w : Nat) := List (Nat × BitVec w)

/-- The canonical form of a memory: its indices strictly rise. -/
abbrev Memory.wf {w : Nat} (μ : Memory w) : Prop := (μ.map Prod.fst).Pairwise (· < ·)

/-- A scalar register: a valid bit and 32 data bits, unreadable while the valid bit is 0 (R20, R21, R23). -/
structure ScalarReg where
  valid : Bool
  data : Word
  deriving DecidableEq, Repr

/-- A vector register: a valid bit, and a length and entries, held as one list (R20, R22, R23). -/
structure VectorReg where
  valid : Bool
  entries : List Byte
  deriving DecidableEq, Repr

/-- The operations of the host port (R45). -/
inductive HostOp where
  /-- `HostIssue(word)` -/
  | issue (word : Word)
  /-- `HostReadS(i)` -/
  | readS (i : SReg)
  /-- `HostWriteS(i, x)` -/
  | writeS (i : SReg) (x : Word)
  /-- `HostReadV(i)` -/
  | readV (i : VReg)
  /-- `HostWriteV(i, seq)`; the entries are any integers, since the port must refuse those outside 0..255 -/
  | writeV (i : VReg) (seq : List Int)
  /-- `HostReadCR(c)` -/
  | readCR (c : Nat)
  /-- `HostReset()` -/
  | reset
  deriving DecidableEq, Repr

/-- What the last port operation returned to the host (R45). -/
inductive HostReply where
  /-- It returned nothing, or none has been performed. -/
  | nothing
  /-- `HostIssue` returned the new `ERR`. -/
  | err (code : BitVec 8)
  /-- `HostReadS` returned (valid, value). -/
  | scalar (valid : Bool) (value : Word)
  /-- `HostReadV` returned (valid, length, entries). -/
  | vector (valid : Bool) (length : Nat) (entries : List Byte)
  /-- `HostReadCR` returned a value, or "no value". -/
  | control (value : Option Word)
  deriving DecidableEq, Repr

/-- The architectural state of one engine (R20), under the spec's register names in lower case, the
build's table of default polynomials, and three fields of the model's own. -/
structure State where
  /-- `s0` .. `s15` (R21) -/
  scalars : Vector ScalarReg 16
  /-- `v0` .. `v15` (R22) -/
  vectors : Vector VectorReg 16
  /-- `EXP` (R33) -/
  exp : Memory 8
  /-- `LOG` (R34) -/
  log : Memory 9
  /-- `GEN` (R35) -/
  gen : Memory 8
  /-- `M` (R36) -/
  m : BitVec 4
  /-- `PRIM` (R36) -/
  prim : BitVec 9
  /-- `N` (R36) -/
  n : BitVec 8
  /-- `T` (R36) -/
  t : BitVec 7
  /-- `K` (R36) -/
  k : BitVec 8
  /-- `STATE` (R31) -/
  state : BitVec 2
  /-- `ERR` (R32) -/
  err : BitVec 8
  /-- `ERRSTICKY` (R32) -/
  errsticky : BitVec 32
  /-- `DREASON` (R32) -/
  dreason : BitVec 8
  /-- the constant `ID` (R30) -/
  ident : BitVec 32
  /-- the constant `FEAT` (R37) -/
  feat : BitVec 3
  /-- the constant `VLMAX` (R37) -/
  vlmax : BitVec 16
  /-- the constant `RSP` (R37) -/
  rsp : BitVec 8
  /-- `DEFAULT_PRIM`, an argument of the build as `FEAT`, `VLMAX` and `RSP` are: the default primitive polynomials of the
  degrees 2 to 8 in this order (R6, R101; log entries 12 and 13) -/
  defaultPrims : Vector Nat 7
  /-- the MODEL's own: the port operations the host will perform, the next one first (R45, R28; log entry 1) -/
  port : List HostOp
  /-- the MODEL's own: what the last port operation returned (R45; log entry 3) -/
  reply : HostReply
  /-- the MODEL's own: which free value comes next (R45, R42; log entry 4) -/
  freeIdx : Nat
  deriving DecidableEq, Repr

/-- The errors a command raises, codes 1 to 15 in this order (R301). An error is a next state, never a stop (R305). -/
inductive Err where
  | unsupportedFieldDegree
  | invalidParameters
  | wrongMessageLength
  | wrongCodewordLength
  | divisionByZeroPolynomial
  | illegalCommand
  | notConfigured
  | operandUnwritten
  | indexOutOfRange
  | elementOutOfRange
  | lengthOverflow
  | zeroInverse
  | wrongPointCount
  | duplicateX
  | wrongOperandLength
  deriving DecidableEq, Repr

/-- The faults that stop the machine: none. Every command of this hardware ends, with its effect or with an error that
is a next state (R305, R350), so nobody raises a fault and no difference from the hardware is hidden in one (safe). -/
inductive Fault where
  deriving DecidableEq, Repr

/-- The reasons an instruction has no meaning in the model. -/
inductive Refusal where
  /-- Raised by `exec`'s arm of an instruction that has no meaning yet, with its mnemonic (safe: the run stops). -/
  | notModelled (mnemonic : String)
  deriving DecidableEq, Repr

/-- What a command answers. -/
abbrev Answer := Host.Outcome State Fault Refusal

/-- The state after `HostReset()`, which is also the state at power-on (R42, R340, R341): every register unwritten,
tables, generator and parameters invalid, the status registers 0, the constants at their values. The data of unwritten
registers and of invalid parameter registers are the model's choice (log entries 5, 6, 7). -/
def State.reset : State where
  scalars := Vector.replicate 16 ⟨false, 0⟩
  vectors := Vector.replicate 16 ⟨false, []⟩
  exp := []
  log := []
  gen := []
  m := 0
  prim := 0
  n := 0
  t := 0
  k := 0
  state := 0
  err := 0
  errsticky := 0
  dreason := 0
  ident := Config.ident
  feat := Config.feat
  vlmax := Config.vlmax
  rsp := Config.rsp
  defaultPrims := Config.defaultPrims
  port := []
  reply := .nothing
  freeIdx := 0

end Sys2Proof.Machine
end

