-- ==== Sys2Proof/Machine/Flags.lean ====
section
/-! DEFINITION. The values of the status registers (R31, R32, R301). This hardware has no arithmetic flags (R20). -/

namespace Sys2Proof.Machine

/-- The code of an error (R301). -/
def Err.code : Err → Nat
  | .unsupportedFieldDegree => 1
  | .invalidParameters => 2
  | .wrongMessageLength => 3
  | .wrongCodewordLength => 4
  | .divisionByZeroPolynomial => 5
  | .illegalCommand => 6
  | .notConfigured => 7
  | .operandUnwritten => 8
  | .indexOutOfRange => 9
  | .elementOutOfRange => 10
  | .lengthOverflow => 11
  | .zeroInverse => 12
  | .wrongPointCount => 13
  | .duplicateX => 14
  | .wrongOperandLength => 15

/-- The bit of `ERRSTICKY` that collects an error: bit `c` for code `c` (R29, R32). -/
def stickyBit (e : Err) : BitVec 32 := 1#32 <<< e.code

/-- `STATE` = `UNCONFIGURED` (R31) -/
def stUnconfigured : BitVec 2 := 0
/-- `STATE` = `FIELD_READY` (R31) -/
def stFieldReady : BitVec 2 := 1
/-- `STATE` = `CODEC_READY` (R31) -/
def stCodecReady : BitVec 2 := 2

/-- `DREASON` = `NONE` (R32) -/
def drNone : BitVec 8 := 0
/-- `DREASON` = `CLEAN` (R32) -/
def drClean : BitVec 8 := 1
/-- `DREASON` = `CORRECTED` (R32) -/
def drCorrected : BitVec 8 := 2
/-- `DREASON` = `NO_SOLUTION` (R32) -/
def drNoSolution : BitVec 8 := 3
/-- `DREASON` = `LOCATION_MISMATCH` (R32) -/
def drLocationMismatch : BitVec 8 := 4
/-- `DREASON` = `SHIFTS_EXHAUSTED` (R32) -/
def drShiftsExhausted : BitVec 8 := 5

end Sys2Proof.Machine
end

