-- ==== Sys2Proof/Machine/Ops.lean ====
section
/-! DEFINITION. The named operations over memories and registers, the end of a command, and raising an error (R305),
which is all the exception entry this hardware has; there is no return from one (R307). -/

namespace Sys2Proof.Machine

/-! ### The element-indexed memories (R50) -/

/-- `MemRead(SPACE, idx, 1)` (R13): the entry at an index, `none` where the memory holds no value. -/
def Memory.read {w : Nat} : Memory w → Nat → Option (BitVec w)
  | [], _ => none
  | (k, x) :: rest, a => if k = a then some x else Memory.read rest a

/-- `MemWrite(SPACE, idx, 1, v)` (R13), keeping the indices strictly rising. -/
def Memory.write {w : Nat} : Memory w → Nat → BitVec w → Memory w
  | [], a, v => [(a, v)]
  | (k, x) :: rest, a, v =>
    if a < k then (a, v) :: (k, x) :: rest
    else if a = k then (a, v) :: rest
    else (k, x) :: Memory.write rest a v

/-- The memory that holds exactly a sequence, entry `i` at index `i`. -/
def Memory.ofSeq (seq : List Nat) : Memory 8 :=
  seq.zipIdx.foldl (fun μ p => Memory.write μ p.2 (BitVec.ofNat 8 p.1)) []

/-! ### The operand registers (R21-R24) -/

/-- A write of a scalar register makes it valid (R23). -/
def State.setScalar (s : State) (r : SReg) (x : Word) : State :=
  { s with scalars := s.scalars.set r ⟨true, x⟩ }

/-- A write of a vector register makes it valid (R23). -/
def State.setVector (s : State) (r : VReg) (xs : List Byte) : State :=
  { s with vectors := s.vectors.set r ⟨true, xs⟩ }

/-- The data of a scalar source register; an unwritten one raises `OperandUnwritten` (R13, R23). -/
def readS (s : State) (r : SReg) : Except Err Word :=
  if s.scalars[r].valid then .ok s.scalars[r].data else .error .operandUnwritten

/-- The entries of a vector source register; an unwritten one raises `OperandUnwritten` (R13, R23). -/
def readV (s : State) (r : VReg) : Except Err (List Byte) :=
  if s.vectors[r].valid then .ok s.vectors[r].entries else .error .operandUnwritten

/-- `s[i] <- v` for an integer `v`, which every rule keeps inside -2^31 .. 2^31-1 (R13). -/
def putS (s : State) (r : SReg) (v : Int) : State := s.setScalar r (BitVec.ofInt 32 v)

/-- `v[i] <- seq`: a sequence longer than `VLMAX` raises `LengthOverflow` before anything is written (R13). -/
def putV (s : State) (r : VReg) (seq : List Nat) : Except Err State :=
  if seq.length > s.vlmax.toNat then .error .lengthOverflow
  else .ok (s.setVector r (seq.map (BitVec.ofNat 8)))

/-- The entries of a vector register as the integers they are (R22). -/
def elems (xs : List Byte) : List Nat := xs.map BitVec.toNat

/-! ### The configuration (R31, R36, R38) -/

/-- `STATE <- 0` and the end of the instance: `EXP`, `LOG`, `GEN`, `M`, `PRIM`, `N`, `T`, `K` become invalid and
`DREASON <- 0` (R103, R31). -/
def State.dropField (s : State) : State :=
  { s with
    state := stUnconfigured, dreason := drNone, exp := [], log := [], gen := [], m := 0, prim := 0, n := 0, t := 0,
    k := 0 }

/-- `STATE <- 1` and the end of the codec: `GEN`, `T`, `K` become invalid and `DREASON <- 0` (R158, R31). -/
def State.dropCodec (s : State) : State :=
  { s with state := stFieldReady, dreason := drNone, gen := [], t := 0, k := 0 }

/-- The tables and parameters of a successful `GFINIT` (R103). -/
def State.installField (s : State) (m prim : Nat) (exp : Memory 8) (log : Memory 9) : State :=
  { s with
    state := stFieldReady, exp := exp, log := log, m := BitVec.ofNat 4 m, prim := BitVec.ofNat 9 prim,
    n := BitVec.ofNat 8 (2 ^ m - 1) }

/-- The generator and parameters of a successful `BCHINIT` (R158). -/
def State.installCodec (s : State) (t : Nat) (k : Int) (gen : List Nat) : State :=
  { s with state := stCodecReady, gen := Memory.ofSeq gen, t := BitVec.ofNat 7 t, k := BitVec.ofInt 8 k }

/-- `DREASON <- reason`, by a decode (R32). -/
def State.setReason (s : State) (reason : BitVec 8) : State := { s with dreason := reason }

/-! ### The end of a command -/

/-- Raising an error, and all that raising does: the code in `ERR`, its bit in `ERRSTICKY` (R305). -/
def raise (e : Err) (s : State) : State :=
  { s with err := BitVec.ofNat 8 e.code, errsticky := s.errsticky ||| stickyBit e }

/-- A command that raises nothing ends with `ERR <- 0` and leaves `ERRSTICKY` alone (R13, R305). -/
def complete (s : State) : State := { s with err := 0 }

/-- The end of a command: `r` is what its rule computed from `s`. An error leaves every destination of the command as
it was in `s` (R24, R305). -/
def finish (s : State) (r : Except Err State) : Answer :=
  match r with
  | .ok t => .next (complete t)
  | .error e => .next (raise e s)

/-! ### The control registers (R29) -/

/-- The value of a control register, zero-extended to 32 bits, or the error `RDCR` raises instead (R29, R263). -/
def readCR (s : State) (c : Nat) : Except Err Word :=
  match c with
  | 0 => .ok s.ident
  | 1 => .ok (s.state.setWidth 32)
  | 2 => .ok (s.err.setWidth 32)
  | 3 => .ok s.errsticky
  | 4 => .ok (s.dreason.setWidth 32)
  | 5 => if s.state = stUnconfigured then .error .notConfigured else .ok (s.m.setWidth 32)
  | 6 => if s.state = stUnconfigured then .error .notConfigured else .ok (s.prim.setWidth 32)
  | 7 => if s.state = stUnconfigured then .error .notConfigured else .ok (s.n.setWidth 32)
  | 8 => if s.state.toNat < 2 then .error .notConfigured else .ok (s.t.setWidth 32)
  | 9 => if s.state.toNat < 2 then .error .notConfigured else .ok (s.k.setWidth 32)
  | 10 => .ok (s.feat.setWidth 32)
  | 11 => .ok (s.vlmax.setWidth 32)
  | 12 => .ok (s.rsp.setWidth 32)
  | _ => .error .indexOutOfRange

end Sys2Proof.Machine
end

