-- ==== Sys2Proof/Syntax.lean ====
section
/-! DEFINITION. The commands (R75, R76): one constructor per row of spec/opcode_table.json, its operands in the order
of the assembler syntax (R81), destinations first. -/

namespace Sys2Proof

/-- The 38 commands of NIDUC-RS CORE (R75, R76). -/
inductive Instr where
  | nop
  | sli (sd : SReg) (imm : BitVec 16)
  | smov (sd sa : SReg)
  | rdcr (sd : SReg) (cr : BitVec 16)
  | clrerr
  | vzero (vd : VReg) (sa : SReg)
  | vset (vd : VReg) (sa sb : SReg)
  | vget (sd : SReg) (va : VReg) (sb : SReg)
  | vlen (sd : SReg) (va : VReg)
  | vmov (vd va : VReg)
  | gfinit (sa sb : SReg)
  | gfadd (sd sa sb : SReg)
  | gfmul (sd sa sb : SReg)
  | gfpow (sd sa sb : SReg)
  | gfinv (sd sa : SReg)
  | ldexp (sd sa : SReg)
  | ldlog (sd sa : SReg)
  | pdeg (sd : SReg) (va : VReg)
  | pmul (vd va vb : VReg)
  | pdiv (vq vr va vb : VReg)
  | pgcd (vd va vb : VReg)
  | plcm (vd va vb : VReg)
  | cosets (vd ve : VReg) (sa : SReg)
  | minpoly (vd va : VReg)
  | genpoly (vd : VReg) (sa : SReg)
  | bchinit (sa : SReg)
  | ldgen (vd : VReg)
  | enc (vd va : VReg)
  | synd (vd va : VReg)
  | peterson (vd : VReg) (sd : SReg) (va : VReg)
  | chien (vd : VReg) (sd : SReg) (va : VReg)
  | dec (vm vc : VReg) (sd : SReg) (va : VReg)
  | decbm (vm vc : VReg) (sd : SReg) (va : VReg)
  | decmg (vm vc : VReg) (sd : SReg) (va : VReg)
  | rsinterp (vd vx vy : VReg)
  | rsverify (sd : SReg) (vx vy vc : VReg)
  | rsdec (vc : VReg) (sl se : SReg) (vx vy : VReg) (sg : SReg)
  | rsdecmv (vc vl : VReg) (se : SReg) (vx vy : VReg) (sg : SReg)
  deriving DecidableEq, Repr

end Sys2Proof
end

