-- ==== Sys2Proof/WellFormed.lean ====
section
/-! DEFINITION. Which terms of `Instr` a command word can spell: the unit the command belongs to is present, and no
register is named as two destinations (R74, R77, R24, R37). Register numbers and immediates are bounded by their types. -/

namespace Sys2Proof

/-- The bit of `FEAT` that says whether the command exists, for a command of an optional unit (R37). -/
def Instr.featBit : Instr → Option Nat
  | .nop => none
  | .sli _ _ => none
  | .smov _ _ => none
  | .rdcr _ _ => none
  | .clrerr => none
  | .vzero _ _ => none
  | .vset _ _ _ => none
  | .vget _ _ _ => none
  | .vlen _ _ => none
  | .vmov _ _ => none
  | .gfinit _ _ => none
  | .gfadd _ _ _ => none
  | .gfmul _ _ _ => none
  | .gfpow _ _ _ => none
  | .gfinv _ _ => none
  | .ldexp _ _ => none
  | .ldlog _ _ => none
  | .pdeg _ _ => none
  | .pmul _ _ _ => none
  | .pdiv _ _ _ _ => none
  | .pgcd _ _ _ => none
  | .plcm _ _ _ => none
  | .cosets _ _ _ => none
  | .minpoly _ _ => none
  | .genpoly _ _ => none
  | .bchinit _ => none
  | .ldgen _ => none
  | .enc _ _ => none
  | .synd _ _ => none
  | .peterson _ _ _ => none
  | .chien _ _ _ => none
  | .dec _ _ _ _ => none
  | .decbm _ _ _ _ => some 0
  | .decmg _ _ _ _ => some 1
  | .rsinterp _ _ _ => some 2
  | .rsverify _ _ _ _ => some 2
  | .rsdec _ _ _ _ _ _ => some 2
  | .rsdecmv _ _ _ _ _ _ => some 2

/-- The scalar destination registers a command names (R25). -/
def Instr.scalarDests : Instr → List SReg
  | .nop => []
  | .sli sd _ => [sd]
  | .smov sd _ => [sd]
  | .rdcr sd _ => [sd]
  | .clrerr => []
  | .vzero _ _ => []
  | .vset _ _ _ => []
  | .vget sd _ _ => [sd]
  | .vlen sd _ => [sd]
  | .vmov _ _ => []
  | .gfinit _ _ => []
  | .gfadd sd _ _ => [sd]
  | .gfmul sd _ _ => [sd]
  | .gfpow sd _ _ => [sd]
  | .gfinv sd _ => [sd]
  | .ldexp sd _ => [sd]
  | .ldlog sd _ => [sd]
  | .pdeg sd _ => [sd]
  | .pmul _ _ _ => []
  | .pdiv _ _ _ _ => []
  | .pgcd _ _ _ => []
  | .plcm _ _ _ => []
  | .cosets _ _ _ => []
  | .minpoly _ _ => []
  | .genpoly _ _ => []
  | .bchinit _ => []
  | .ldgen _ => []
  | .enc _ _ => []
  | .synd _ _ => []
  | .peterson _ sd _ => [sd]
  | .chien _ sd _ => [sd]
  | .dec _ _ sd _ => [sd]
  | .decbm _ _ sd _ => [sd]
  | .decmg _ _ sd _ => [sd]
  | .rsinterp _ _ _ => []
  | .rsverify sd _ _ _ => [sd]
  | .rsdec _ sl se _ _ _ => [sl, se]
  | .rsdecmv _ _ se _ _ _ => [se]

/-- The vector destination registers a command names (R25). -/
def Instr.vectorDests : Instr → List VReg
  | .nop => []
  | .sli _ _ => []
  | .smov _ _ => []
  | .rdcr _ _ => []
  | .clrerr => []
  | .vzero vd _ => [vd]
  | .vset vd _ _ => [vd]
  | .vget _ _ _ => []
  | .vlen _ _ => []
  | .vmov vd _ => [vd]
  | .gfinit _ _ => []
  | .gfadd _ _ _ => []
  | .gfmul _ _ _ => []
  | .gfpow _ _ _ => []
  | .gfinv _ _ => []
  | .ldexp _ _ => []
  | .ldlog _ _ => []
  | .pdeg _ _ => []
  | .pmul vd _ _ => [vd]
  | .pdiv vq vr _ _ => [vq, vr]
  | .pgcd vd _ _ => [vd]
  | .plcm vd _ _ => [vd]
  | .cosets vd ve _ => [vd, ve]
  | .minpoly vd _ => [vd]
  | .genpoly vd _ => [vd]
  | .bchinit _ => []
  | .ldgen vd => [vd]
  | .enc vd _ => [vd]
  | .synd vd _ => [vd]
  | .peterson vd _ _ => [vd]
  | .chien vd _ _ => [vd]
  | .dec vm vc _ _ => [vm, vc]
  | .decbm vm vc _ _ => [vm, vc]
  | .decmg vm vc _ _ => [vm, vc]
  | .rsinterp vd _ _ => [vd]
  | .rsverify _ _ _ _ => []
  | .rsdec vc _ _ _ _ _ => [vc]
  | .rsdecmv vc vl _ _ _ _ => [vc, vl]

/-- The scalar source registers a command names (R25, R303). -/
def Instr.scalarSources : Instr → List SReg
  | .nop => []
  | .sli _ _ => []
  | .smov _ sa => [sa]
  | .rdcr _ _ => []
  | .clrerr => []
  | .vzero _ sa => [sa]
  | .vset _ sa sb => [sa, sb]
  | .vget _ _ sb => [sb]
  | .vlen _ _ => []
  | .vmov _ _ => []
  | .gfinit sa sb => [sa, sb]
  | .gfadd _ sa sb => [sa, sb]
  | .gfmul _ sa sb => [sa, sb]
  | .gfpow _ sa sb => [sa, sb]
  | .gfinv _ sa => [sa]
  | .ldexp _ sa => [sa]
  | .ldlog _ sa => [sa]
  | .pdeg _ _ => []
  | .pmul _ _ _ => []
  | .pdiv _ _ _ _ => []
  | .pgcd _ _ _ => []
  | .plcm _ _ _ => []
  | .cosets _ _ sa => [sa]
  | .minpoly _ _ => []
  | .genpoly _ sa => [sa]
  | .bchinit sa => [sa]
  | .ldgen _ => []
  | .enc _ _ => []
  | .synd _ _ => []
  | .peterson _ _ _ => []
  | .chien _ _ _ => []
  | .dec _ _ _ _ => []
  | .decbm _ _ _ _ => []
  | .decmg _ _ _ _ => []
  | .rsinterp _ _ _ => []
  | .rsverify _ _ _ _ => []
  | .rsdec _ _ _ _ _ sg => [sg]
  | .rsdecmv _ _ _ _ _ sg => [sg]

/-- The vector source registers a command names; the destination of `VSET` is one of them (R25, R266, R303). -/
def Instr.vectorSources : Instr → List VReg
  | .nop => []
  | .sli _ _ => []
  | .smov _ _ => []
  | .rdcr _ _ => []
  | .clrerr => []
  | .vzero _ _ => []
  | .vset vd _ _ => [vd]
  | .vget _ va _ => [va]
  | .vlen _ va => [va]
  | .vmov _ va => [va]
  | .gfinit _ _ => []
  | .gfadd _ _ _ => []
  | .gfmul _ _ _ => []
  | .gfpow _ _ _ => []
  | .gfinv _ _ => []
  | .ldexp _ _ => []
  | .ldlog _ _ => []
  | .pdeg _ va => [va]
  | .pmul _ va vb => [va, vb]
  | .pdiv _ _ va vb => [va, vb]
  | .pgcd _ va vb => [va, vb]
  | .plcm _ va vb => [va, vb]
  | .cosets _ _ _ => []
  | .minpoly _ va => [va]
  | .genpoly _ _ => []
  | .bchinit _ => []
  | .ldgen _ => []
  | .enc _ va => [va]
  | .synd _ va => [va]
  | .peterson _ _ va => [va]
  | .chien _ _ va => [va]
  | .dec _ _ _ va => [va]
  | .decbm _ _ _ va => [va]
  | .decmg _ _ _ va => [va]
  | .rsinterp _ vx vy => [vx, vy]
  | .rsverify _ vx vy vc => [vx, vy, vc]
  | .rsdec _ _ _ vx vy _ => [vx, vy]
  | .rsdecmv _ _ _ vx vy _ => [vx, vy]

/-- The least `STATE` a command runs in (R31); `RDCR` checks per register instead (R263). -/
def Instr.leastState : Instr → Nat
  | .nop => 0
  | .sli _ _ => 0
  | .smov _ _ => 0
  | .rdcr _ _ => 0
  | .clrerr => 0
  | .vzero _ _ => 0
  | .vset _ _ _ => 0
  | .vget _ _ _ => 0
  | .vlen _ _ => 0
  | .vmov _ _ => 0
  | .gfinit _ _ => 0
  | .gfadd _ _ _ => 1
  | .gfmul _ _ _ => 1
  | .gfpow _ _ _ => 1
  | .gfinv _ _ => 1
  | .ldexp _ _ => 1
  | .ldlog _ _ => 1
  | .pdeg _ _ => 0
  | .pmul _ _ _ => 1
  | .pdiv _ _ _ _ => 1
  | .pgcd _ _ _ => 1
  | .plcm _ _ _ => 1
  | .cosets _ _ _ => 1
  | .minpoly _ _ => 1
  | .genpoly _ _ => 1
  | .bchinit _ => 1
  | .ldgen _ => 2
  | .enc _ _ => 2
  | .synd _ _ => 2
  | .peterson _ _ _ => 2
  | .chien _ _ _ => 2
  | .dec _ _ _ _ => 2
  | .decbm _ _ _ _ => 2
  | .decmg _ _ _ _ => 2
  | .rsinterp _ _ _ => 0
  | .rsverify _ _ _ _ => 0
  | .rsdec _ _ _ _ _ _ => 0
  | .rsdecmv _ _ _ _ _ _ => 0

/-- The unit of the command is present in a build whose constant `FEAT` is `feat` (R37). -/
def Instr.unitPresent (feat : BitVec 3) (i : Instr) : Bool :=
  match i.featBit with
  | none => true
  | some b => feat.getLsbD b

/-- No register is named as two destinations of one file (R24). -/
def Instr.distinctDests (i : Instr) : Bool :=
  decide (i.scalarDests.Nodup ∧ i.vectorDests.Nodup)

/-- A command word of a build whose constant `FEAT` is `feat` can spell this term (R74). -/
def WellFormed (feat : BitVec 3) (i : Instr) : Bool :=
  i.unitPresent feat && i.distinctDests

end Sys2Proof
end

