-- ==== Sys2Proof/Machine/Operands.lean ====
section
/-! DEFINITION. The checks a command makes on its word, on `STATE` and on its operands (R303), and the forms in which
an operand is read. -/

namespace Sys2Proof.Machine

/-- A check of a command's rule: the error is raised unless the condition holds (R303). -/
def ensure (p : Prop) [Decidable p] (e : Err) : Except Err Unit :=
  if p then .ok () else .error e

/-- The command of a term that no word spells, an absent unit's or one with a destination named twice, raises
`IllegalCommand` (R74, R77); the decoder stops such a word before. -/
def requireLegal (s : State) (i : Instr) : Except Err Unit :=
  ensure (WellFormed s.feat i = true) .illegalCommand

/-- The `STATE` requirement of a command (R31). -/
def requireState (s : State) (least : Nat) : Except Err Unit :=
  ensure (least ≤ s.state.toNat) .notConfigured

/-- The largest field element, 2^M - 1 (R11, R106). -/
def maxElem (s : State) : Nat := 2 ^ s.m.toNat - 1

/-- A scalar operand that must be a field element, 0 .. 2^M - 1 (section 3 of 40_gf_field.md). -/
def fieldElem (s : State) (x : Word) : Except Err Nat :=
  if 0 ≤ x.toInt ∧ x.toInt ≤ maxElem s then .ok x.toInt.toNat else .error .elementOutOfRange

/-- A vector operand whose every entry must be at most `top`, trailing zeros' positions included (R130, R170). -/
def entriesAtMost (top : Nat) (xs : List Byte) : Except Err (List Nat) :=
  if ∀ x ∈ xs, x.toNat ≤ top then .ok (elems xs) else .error .elementOutOfRange

/-- A polynomial operand: every entry a field element (R130). -/
def polyOperand (s : State) (xs : List Byte) : Except Err (List Nat) := entriesAtMost (maxElem s) xs

/-- A bit-vector operand of a fixed length: the length is checked first, with the given error, then every entry
(R170). -/
def bitOperand (len : Nat) (e : Err) (xs : List Byte) : Except Err (List Nat) :=
  if xs.length = len then entriesAtMost 1 xs else .error e

/-- The coordinates of the points of an RS command: lengths equal, then every entry below P (R232). -/
def pointOperands (s : State) (xs ys : List Byte) : Except Err (List Nat × List Nat) :=
  if xs.length = ys.length then
    if (∀ x ∈ xs, x.toNat < s.rsp.toNat) ∧ (∀ y ∈ ys, y.toNat < s.rsp.toNat) then .ok (elems xs, elems ys)
    else .error .elementOutOfRange
  else .error .wrongOperandLength

/-- The operand t: legal when 1 <= t and 2t < n (R150). -/
def capability (s : State) (x : Word) : Except Err Nat :=
  if 1 ≤ x.toInt ∧ 2 * x.toInt < s.n.toNat then .ok x.toInt.toNat else .error .invalidParameters

end Sys2Proof.Machine
end

