-- ==== Sys2Proof/Machine/GfField.lean ====
section
/-! DEFINITION. The GF unit (40_gf_field.md): the function layer on the tables of GF(2^m), and the commands `GFINIT`,
`GFADD`, `GFMUL`, `GFPOW`, `GFINV`, `LDEXP`, `LDLOG`. -/

namespace Sys2Proof.Machine

/-- What the function layer reads of a configured field: n and the two tables (R9, R33, R34). -/
structure Field where
  n : Nat
  exp : Memory 8
  log : Memory 9
  deriving DecidableEq, Repr

/-- The field of the present configuration (R36). -/
def State.field (s : State) : Field := ⟨s.n.toNat, s.exp, s.log⟩

/-- `MemRead(EXP, i, 1)` as an integer (R51). An entry that nothing has written, which no rule reads, is a free value. -/
def expEntry (μ : Memory 8) (i : Nat) : Byte := (Memory.read μ i).getD (Config.unlistedExp i)

/-- `MemRead(LOG, a, 1)` (R52). An entry that nothing has written, which no rule reads, is a free value. -/
def logEntry (μ : Memory 9) (a : Nat) : BitVec 9 := (Memory.read μ a).getD (Config.unlistedLog a)

/-- α^e = `EXP[e mod n]` for any integer e, with the floored modulus (R104). -/
def alphaPow (F : Field) (e : Int) : Nat := (expEntry F.exp (e % F.n).toNat).toNat

/-- `LOG[a]` as an integer; the sentinel of 0 is -1 (R34). -/
def logOf (F : Field) (a : Nat) : Int := (logEntry F.log a).toInt

/-! ### Construction (R100-R103) -/

/-- `DEFAULT_PRIM[m]`, read from a build's table, whose first entry is that of the degree `M_MIN` (R101). A degree
outside 2..8, which no command asks for, has no default. -/
def defaultPrim (table : Vector Nat 7) (m : Nat) : Nat := table.toList.getD (m - Config.mMin) 0

/-- Multiply by α, reduce if overflow (R100). -/
def mulAlpha (m prim x : Nat) : Nat :=
  let y := x <<< 1
  if y ≥ 2 ^ m then y ^^^ prim else y

/-- The `count` successive products by α that follow `x` (R100). -/
def alphaRun (m prim : Nat) : Nat → Nat → List Nat
  | 0, _ => []
  | count + 1, x => mulAlpha m prim x :: alphaRun m prim count (mulAlpha m prim x)

/-- The loop of R100 from index `i` on: `x` is the value at index `i - 1`, `count` the passes left. -/
def buildLoop (m prim : Nat) : Nat → Nat → Nat → Memory 8 × Memory 9 → Memory 8 × Memory 9
  | 0, _, _, tables => tables
  | count + 1, i, x, (exp, log) =>
    let y := mulAlpha m prim x
    buildLoop m prim count (i + 1) y
      (Memory.write exp i (BitVec.ofNat 8 y), Memory.write log y (BitVec.ofNat 9 i))

/-- `gfBuild(m, prim)`: the two tables, entry n of `EXP` not written (R100). -/
def gfBuild (m prim : Nat) : Memory 8 × Memory 9 :=
  buildLoop m prim (2 ^ m - 2) 1 1
    (Memory.write [] 0 1, Memory.write (Memory.write [] 0 (BitVec.ofInt 9 (-1))) 1 0)

/-- α has order n under `prim`: no α^i for i in 1 .. n-1 is 1, and α^n is 1 (R102). -/
def isPrimitive (m prim : Nat) : Bool :=
  (alphaRun m prim (2 ^ m - 2) 1).all (· ≠ 1) && (alphaRun m prim (2 ^ m - 1) 1).getLast? == some 1

/-- The checks of R102, in order, in a build with the given table of defaults: the degree and the polynomial in use. -/
def checkConstruction (table : Vector Nat 7) (m prim : Int) : Except Err (Nat × Nat) := do
  ensure (Config.mMin ≤ m ∧ m ≤ Config.mMax) .unsupportedFieldDegree
  let mm := m.toNat
  let pp := if prim = 0 then (defaultPrim table mm : Int) else prim
  ensure (0 ≤ pp ∧ pp.toNat >>> mm = 1) .invalidParameters
  ensure (isPrimitive mm pp.toNat = true) .invalidParameters
  return (mm, pp.toNat)

/-- The construction of a field in a state whose old instance has ended (R103). -/
def constructField (s : State) (m prim : Int) : Except Err State := do
  let (mm, pp) ← checkConstruction s.defaultPrims m prim
  let (exp, log) := gfBuild mm pp
  return s.installField mm pp exp log

/-- `GFINIT sa, sb` (R103): a parameter error leaves `STATE` 0 (R306). -/
def execGfinit (sa sb : SReg) (s : State) : Answer :=
  match (do let m ← readS s sa; let p ← readS s sb; return (m, p) : Except Err (Word × Word)) with
  | .error e => finish s (.error e)
  | .ok (m, p) => finish s.dropField (constructField s.dropField m.toInt p.toInt)

/-! ### Field arithmetic (R105-R112) -/

/-- `gfAdd(a, b)` (R105) -/
def gfAdd (a b : Nat) : Nat := a ^^^ b

/-- `gfMul(a, b)` (R107) -/
def gfMul (F : Field) (a b : Nat) : Nat :=
  if a = 0 ∨ b = 0 then 0 else alphaPow F (logOf F a + logOf F b)

/-- `gfPow(base, e)` (R109) -/
def gfPow (F : Field) (base : Nat) (e : Int) : Nat :=
  if base = 0 then (if e = 0 then 1 else 0) else alphaPow F (logOf F base * e)

/-- `gfInv(a)` for a ≠ 0 (R111); at 0 it has no value, and every caller guards it. -/
def gfInv (F : Field) (a : Nat) : Nat :=
  if a = 0 then Config.inverseOfZero else alphaPow F (F.n - logOf F a)

/-- `gfAdd` over a sequence, the empty sum 0 (R181). -/
def gfSum (xs : List Nat) : Nat := xs.foldl gfAdd 0

/-- `GFADD sd, sa, sb` (R106) -/
def execGfadd (sd sa sb : SReg) (s : State) : Answer :=
  finish s do
    requireState s 1
    let x ← readS s sa
    let y ← readS s sb
    let a ← fieldElem s x
    let b ← fieldElem s y
    return putS s sd (gfAdd a b)

/-- `GFMUL sd, sa, sb` (R108) -/
def execGfmul (sd sa sb : SReg) (s : State) : Answer :=
  finish s do
    requireState s 1
    let x ← readS s sa
    let y ← readS s sb
    let a ← fieldElem s x
    let b ← fieldElem s y
    return putS s sd (gfMul s.field a b)

/-- `GFPOW sd, sa, sb` (R110): the exponent has no range. -/
def execGfpow (sd sa sb : SReg) (s : State) : Answer :=
  finish s do
    requireState s 1
    let x ← readS s sa
    let e ← readS s sb
    let a ← fieldElem s x
    return putS s sd (gfPow s.field a e.toInt)

/-- `GFINV sd, sa` (R112) -/
def execGfinv (sd sa : SReg) (s : State) : Answer :=
  finish s do
    requireState s 1
    let x ← readS s sa
    let a ← fieldElem s x
    ensure (a ≠ 0) .zeroInverse
    return putS s sd (gfInv s.field a)

/-! ### Table reads (R113, R114) -/

/-- `LDEXP sd, sa` (R113): entry n is not readable. -/
def execLdexp (sd sa : SReg) (s : State) : Answer :=
  finish s do
    requireState s 1
    let i ← readS s sa
    ensure (0 ≤ i.toInt ∧ i.toInt < s.n.toNat) .indexOutOfRange
    return s.setScalar sd ((expEntry s.exp i.toInt.toNat).setWidth 32)

/-- `LDLOG sd, sa` (R114): `LOG[0]` reads as -1. -/
def execLdlog (sd sa : SReg) (s : State) : Answer :=
  finish s do
    requireState s 1
    let a ← readS s sa
    ensure (0 ≤ a.toInt ∧ a.toInt ≤ maxElem s) .indexOutOfRange
    return s.setScalar sd ((logEntry s.log a.toInt.toNat).signExtend 32)

end Sys2Proof.Machine
end

