-- ==== Sys2Proof/Machine/Poly.lean ====
section
/-! DEFINITION. The PA unit (41_poly_algebra.md): polynomial algebra over GF(2^m), index = degree (R12), and the commands
`PDEG`, `PMUL`, `PDIV`, `PGCD`, `PLCM`. -/

namespace Sys2Proof.Machine

/-- `polyDeg(p)`: the highest index with a nonzero coefficient, -1 for the zero polynomial (R131). -/
def polyDeg : List Nat → Int
  | [] => -1
  | c :: cs => if 0 ≤ polyDeg cs then polyDeg cs + 1 else if c = 0 then -1 else 0

/-- The sum of two polynomials, as long as the longer operand (R12, R105). -/
def polyAdd : List Nat → List Nat → List Nat
  | [], ys => ys
  | xs, [] => xs
  | x :: xs, y :: ys => gfAdd x y :: polyAdd xs ys

/-- `polyMul(a, b)`, one row of the convolution for each entry of `a`; the length is len(a) + len(b) - 1, and an empty
operand gives the empty sequence (R133; log entry 16). -/
def polyMul (F : Field) : List Nat → List Nat → List Nat
  | [], _ => []
  | x :: xs, b => if b = [] then [] else polyAdd (b.map (gfMul F x)) (0 :: polyMul F xs b)

/-- Adds `ys` into `w` from index `off` on; the length of `w` stays. -/
def addAt : Nat → List Nat → List Nat → List Nat
  | _, [], _ => []
  | 0, w, [] => w
  | 0, x :: w, y :: ys => gfAdd x y :: addAt 0 w ys
  | off + 1, x :: w, ys => x :: addAt off w ys

/-- The quotient digit of one step of the division: c divided by the divisor's leading coefficient (R135). -/
def quotientDigit (F : Field) (lead c : Nat) : Nat :=
  if lead = 1 then c else alphaPow F (logOf F c - logOf F lead)

/-- The loop of R135, `count` steps left: the degree being cancelled is `db + count - 1`. `w` is the running remainder
and `q` the quotient entries found so far. -/
def divLoop (F : Field) (b : List Nat) (db lead : Nat) : Nat → List Nat → List Nat → List Nat × List Nat
  | 0, w, q => (q, w)
  | count + 1, w, q =>
    let c := w.getD (db + count) 0
    if c = 0 then divLoop F b db lead count w (0 :: q)
    else
      let qc := quotientDigit F lead c
      divLoop F b db lead count (addAt count w ((b.take (db + 1)).map (gfMul F qc))) (qc :: q)

/-- Schoolbook long division by a divisor of degree `db`: the quotient has max(da - db + 1, 0) entries, the remainder
exactly `db` (R135). -/
def divideBy (F : Field) (a b : List Nat) (db : Nat) : List Nat × List Nat :=
  let (q, w) := divLoop F b db (b.getD db 0) (polyDeg a - db + 1).toNat a []
  (q, (List.range db).map fun i => w.getD i 0)

/-- `polyDiv(a, b)`, the quotient and the remainder (R135). -/
def polyDiv (F : Field) (a b : List Nat) : Except Err (List Nat × List Nat) :=
  if polyDeg b < 0 then .error .divisionByZeroPolynomial else .ok (divideBy F a b (polyDeg b).toNat)

/-- The loop of R137 with a bound on its passes (R350). -/
def gcdLoop (F : Field) : Nat → List Nat → List Nat → List Nat
  | 0, a, _ => a
  | fuel + 1, a, b => if polyDeg b < 0 then a else gcdLoop F fuel b (divideBy F a b (polyDeg b).toNat).2

/-- `polyGcd(a, b)`: the last nonzero remainder as it stands; at most deg(b) + 1 divisions (R137, R350). -/
def polyGcd (F : Field) (a b : List Nat) : List Nat := gcdLoop F (polyDeg b + 1).toNat a b

/-- `polyLcm(a, b)`, the product no longer than a vector register (R139, R140, R130). -/
def polyLcm (F : Field) (vlmax : Nat) (a b : List Nat) : Except Err (List Nat) := do
  let p := polyMul F a b
  ensure (p.length ≤ vlmax) .lengthOverflow
  let (q, _) ← polyDiv F p (polyGcd F a b)
  return q

/-- `PDEG sd, va` (R132): any `STATE`, no range check. -/
def execPdeg (sd : SReg) (va : VReg) (s : State) : Answer :=
  finish s do
    let a ← readV s va
    return putS s sd (polyDeg (elems a))

/-- `PMUL vd, va, vb` (R134) -/
def execPmul (vd va vb : VReg) (s : State) : Answer :=
  finish s do
    requireState s 1
    let x ← readV s va
    let y ← readV s vb
    let a ← polyOperand s x
    let b ← polyOperand s y
    putV s vd (polyMul s.field a b)

/-- `PDIV vq, vr, va, vb` (R136) -/
def execPdiv (vq vr va vb : VReg) (s : State) : Answer :=
  finish s do
    requireLegal s (.pdiv vq vr va vb)
    requireState s 1
    let x ← readV s va
    let y ← readV s vb
    let a ← polyOperand s x
    let b ← polyOperand s y
    let (q, r) ← polyDiv s.field a b
    let s1 ← putV s vq q
    putV s1 vr r

/-- `PGCD vd, va, vb` (R138) -/
def execPgcd (vd va vb : VReg) (s : State) : Answer :=
  finish s do
    requireState s 1
    let x ← readV s va
    let y ← readV s vb
    let a ← polyOperand s x
    let b ← polyOperand s y
    putV s vd (polyGcd s.field a b)

/-- `PLCM vd, va, vb` (R140) -/
def execPlcm (vd va vb : VReg) (s : State) : Answer :=
  finish s do
    requireState s 1
    let x ← readV s va
    let y ← readV s vb
    let a ← polyOperand s x
    let b ← polyOperand s y
    let l ← polyLcm s.field s.vlmax.toNat a b
    putV s vd l

end Sys2Proof.Machine
end

