-- ==== Sys2Proof/Machine/Generator.lean ====
section
/-! DEFINITION. The GS unit (42_generator_synth.md): cyclotomic cosets, minimal polynomials, the generator polynomial,
and the commands `COSETS`, `MINPOLY`, `GENPOLY`, `BCHINIT`, `LDGEN`. -/

namespace Sys2Proof.Machine

/-- The members of the coset of `lead` from `j` on, in order of generation, at most `fuel` of them (R151, R350). -/
def orbit (n lead : Nat) : Nat → Nat → List Nat
  | 0, _ => []
  | fuel + 1, j => j :: if 2 * j % n = lead then [] else orbit n lead fuel (2 * j % n)

/-- The loop of R151 over the candidate leaders, `used` being the members found so far. -/
def cosetsFrom (n : Nat) : List Nat → List Nat → List (List Nat)
  | [], _ => []
  | i :: rest, used =>
    if i ∈ used then cosetsFrom n rest used
    else orbit n i n i :: cosetsFrom n rest (used ++ orbit n i n i)

/-- `cosets(n, t)`, ordered by leader (R151). -/
def cosets (n t : Nat) : List (List Nat) := cosetsFrom n (List.range' 1 (2 * t)) []

/-- `minPoly(coset)`: the product of the factors x + α^i (R153). -/
def minPoly (F : Field) (coset : List Nat) : List Nat :=
  coset.foldl (fun p i => polyMul F p [alphaPow F i, 1]) [1]

/-- The LCM-fold of R156 over a list of cosets. -/
def lcmFold (F : Field) (vlmax : Nat) : List (List Nat) → List Nat → Except Err (List Nat)
  | [], g => .ok g
  | c :: rest, g =>
    match polyLcm F vlmax g (minPoly F c) with
    | .error e => .error e
    | .ok g' => lcmFold F vlmax rest g'

/-- `genPoly(n, t)` (R156); an intermediate product longer than a vector register raises `LengthOverflow` (R157). -/
def genPoly (F : Field) (vlmax t : Nat) : Except Err (List Nat) := lcmFold F vlmax (cosets F.n t) [1]

/-- `COSETS vd, ve, sa` (R152) -/
def execCosets (vd ve : VReg) (sa : SReg) (s : State) : Answer :=
  finish s do
    requireLegal s (.cosets vd ve sa)
    requireState s 1
    let x ← readS s sa
    let t ← capability s x
    let cs := cosets s.n.toNat t
    let s1 ← putV s vd cs.flatten
    putV s1 ve (cs.map List.length)

/-- `MINPOLY vd, va` (R154) -/
def execMinpoly (vd va : VReg) (s : State) : Answer :=
  finish s do
    requireState s 1
    let c ← readV s va
    ensure (∀ i ∈ c, i.toNat < s.n.toNat) .indexOutOfRange
    putV s vd (minPoly s.field (elems c))

/-- `GENPOLY vd, sa` (R157): nothing is installed. -/
def execGenpoly (vd : VReg) (sa : SReg) (s : State) : Answer :=
  finish s do
    requireState s 1
    let x ← readS s sa
    let t ← capability s x
    let g ← genPoly s.field s.vlmax.toNat t
    putV s vd g

/-- The construction of a codec in a state whose old codec has ended (R158). -/
def constructCodec (s : State) (x : Word) : Except Err State := do
  let t ← capability s x
  let g ← genPoly s.field s.vlmax.toNat t
  return s.installCodec t (s.n.toNat - polyDeg g) g

/-- `BCHINIT sa` (R158): a parameter error leaves `STATE` 1 (R306). -/
def execBchinit (sa : SReg) (s : State) : Answer :=
  match (do requireState s 1; readS s sa : Except Err Word) with
  | .error e => finish s (.error e)
  | .ok x => finish s.dropCodec (constructCodec s.dropCodec x)

/-- `MemRead(GEN, i, 1)` (R53). An entry that nothing has written, which no rule reads, is a free value. -/
def genEntry (s : State) (i : Nat) : Byte := (Memory.read s.gen i).getD (Config.unlistedGen i)

/-- The whole of `GEN`, n-k+1 entries (R35, R53). -/
def genSeq (s : State) : List Nat :=
  (List.range (s.n.toNat - s.k.toNat + 1)).map fun i => (genEntry s i).toNat

/-- `LDGEN vd` (R159) -/
def execLdgen (vd : VReg) (s : State) : Answer :=
  finish s do
    requireState s 2
    putV s vd (genSeq s)

end Sys2Proof.Machine
end

