-- ==== Sys2Proof/Machine/Encoder.lean ====
section
/-! DEFINITION. The ENC unit (43_bch_encode.md): the systematic encoder and the command `ENC`; and the codec of the
present configuration, which the decoders read too. -/

namespace Sys2Proof.Machine

/-- What the encoder and the decoders read of a configured codec (R9, R36, R35). -/
structure Codec where
  field : Field
  t : Nat
  k : Nat
  gen : List Nat
  deriving DecidableEq, Repr

/-- The codec of the present configuration (R36). -/
def State.codec (s : State) : Codec := ⟨s.field, s.t.toNat, s.k.toNat, genSeq s⟩

/-- The number of parity positions, n - k (R7). -/
def Codec.parity (c : Codec) : Nat := c.field.n - c.k

/-- `bchEncode(msg)`: parity at the low indices, the message above it (R171). -/
def bchEncode (c : Codec) (msg : List Nat) : Except Err (List Nat) := do
  let (_, rem) ← polyDiv c.field (List.replicate c.parity 0 ++ msg) c.gen
  return rem ++ msg

/-- `ENC vd, va` (R172) -/
def execEnc (vd va : VReg) (s : State) : Answer :=
  finish s do
    requireState s 2
    let x ← readV s va
    let msg ← bitOperand s.k.toNat .wrongMessageLength x
    let cw ← bchEncode s.codec msg
    putV s vd cw

end Sys2Proof.Machine
end

