-- ==== Sys2Proof/Machine/Peterson.lean ====
section
/-! DEFINITION. The DEC unit (44_bch_decode_peterson.md): syndromes, Peterson's solve, the Chien search, the whole
decode of strategy 1, and the commands `SYND`, `PETERSON`, `CHIEN`, `DEC`. -/

namespace Sys2Proof.Machine

/-- `polyEval(p, x)` (R181) -/
def polyEval (F : Field) (p : List Nat) (x : Nat) : Nat :=
  gfSum (p.zipIdx.map fun cj => gfMul F cj.1 (gfPow F x cj.2))

/-- `syndromes(r)`: 2t entries, entry `p` the value at α^(p+1) (R182). -/
def syndromes (F : Field) (t : Nat) (r : List Nat) : List Nat :=
  (List.range (2 * t)).map fun p => polyEval F r (alphaPow F (p + 1))

/-- The syndrome matrix of side `v`: M[i][j] = S[i + j] (R185). -/
def syndromeMatrix (S : List Nat) (v : Nat) : List (List Nat) :=
  (List.range v).map fun i => (List.range v).map fun j => S.getD (i + j) 0

/-- The right-hand side of side `v`: rhs[i] = S[i + v] (R185). -/
def syndromeRhs (S : List Nat) (v : Nat) : List Nat := (List.range v).map fun i => S.getD (i + v) 0

/-- `gfDet(A)` of a matrix of side `v`, given by its rows: cofactor expansion along row 0, every sign +1 (R186). -/
def gfDet (F : Field) : Nat → List (List Nat) → Nat
  | 0, _ => 1
  | v + 1, rows =>
    gfSum ((List.range (v + 1)).map fun j =>
      gfMul F ((rows.headD []).getD j 0) (gfDet F v (rows.tail.map fun row => row.eraseIdx j)))

/-- A matrix with column `c` replaced (R187). -/
def replaceColumn (rows : List (List Nat)) (c : Nat) (col : List Nat) : List (List Nat) :=
  rows.zipIdx.map fun ri => ri.1.set c (col.getD ri.2 0)

/-- The solution coordinates of the system of side `v`, by Cramer's rule (R187). -/
def cramer (F : Field) (S : List Nat) (v : Nat) : List Nat :=
  let M := syndromeMatrix S v
  let dinv := gfInv F (gfDet F v M)
  (List.range v).map fun c => gfMul F (gfDet F v (replaceColumn M c (syndromeRhs S v))) dinv

/-- The loop of R187 for v from the given side down to 1; Λ is 1 followed by the coordinates in reverse order. -/
def petersonLoop (F : Field) (S : List Nat) : Nat → Int × List Nat
  | 0 => (-1, [1])
  | v + 1 =>
    if gfDet F (v + 1) (syndromeMatrix S (v + 1)) ≠ 0 then ((v + 1 : Nat), 1 :: (cramer F S (v + 1)).reverse)
    else petersonLoop F S v

/-- `petersonSolve(S, t)`, returning (v, Λ) (R187, R189). -/
def petersonSolve (F : Field) (S : List Nat) (t : Nat) : Int × List Nat :=
  if ∀ x ∈ S, x = 0 then (0, [1]) else petersonLoop F S t

/-- `chien(Λ)`: the positions i with Λ(α^(-i)) = 0, ascending (R190). -/
def chien (F : Field) (locator : List Nat) : List Nat :=
  (List.range F.n).filter fun i => polyEval F locator (alphaPow F ((F.n : Int) - i)) = 0

/-- The word with the bits at the given positions flipped (R192). -/
def flipBits (r pos : List Nat) : List Nat :=
  r.zipIdx.map fun xi => if xi.2 ∈ pos then xi.1 ^^^ 1 else xi.1

/-- `msgOf(c)`: the entries above the parity (R192). -/
def msgOf (c : Codec) (word : List Nat) : List Nat := word.drop c.parity

/-- What a decode returns: message, word, errorCount and the terminal state it reached (R193). -/
structure Decoded where
  msg : List Nat
  word : List Nat
  count : Int
  reason : BitVec 8
  deriving DecidableEq, Repr

/-- The reject that returns the received word unmodified and its message part (R193, C7). -/
def rejected (c : Codec) (r : List Nat) (reason : BitVec 8) : Decoded := ⟨msgOf c r, r, -1, reason⟩

/-- The last step of strategies 1 and 2: the Chien search of a locator that should have `count` roots, then the flips
(R193, R212). -/
def locateAndFlip (c : Codec) (r locator : List Nat) (count : Int) : Decoded :=
  let pos := chien c.field locator
  if (pos.length : Int) ≠ count then rejected c r drLocationMismatch
  else ⟨msgOf c (flipBits r pos), flipBits r pos, count, drCorrected⟩

/-- `bchDecode(r)` (R193) -/
def bchDecode (c : Codec) (r : List Nat) : Decoded :=
  let S := syndromes c.field c.t r
  if ∀ x ∈ S, x = 0 then ⟨msgOf c r, r, 0, drClean⟩
  else
    let (v, locator) := petersonSolve c.field S c.t
    if v = -1 then rejected c r drNoSolution else locateAndFlip c r locator v

/-- The writes of a decode command: message, corrected word, errorCount, `DREASON` (R194, R213, R217). -/
def putDecoded (s : State) (vm vc : VReg) (sd : SReg) (d : Decoded) : Except Err State := do
  let s1 ← putV s vm d.msg
  let s2 ← putV s1 vc d.word
  return (putS s2 sd d.count).setReason d.reason

/-- `SYND vd, va` (R183) -/
def execSynd (vd va : VReg) (s : State) : Answer :=
  finish s do
    requireState s 2
    let x ← readV s va
    let r ← bitOperand s.n.toNat .wrongCodewordLength x
    putV s vd (syndromes s.field s.t.toNat r)

/-- `PETERSON vd, sd, va` (R188): v = -1 is a result. -/
def execPeterson (vd : VReg) (sd : SReg) (va : VReg) (s : State) : Answer :=
  finish s do
    requireState s 2
    let x ← readV s va
    ensure (x.length = 2 * s.t.toNat) .wrongOperandLength
    let S ← polyOperand s x
    let (v, locator) := petersonSolve s.field S s.t.toNat
    let s1 ← putV s vd locator
    return putS s1 sd v

/-- `CHIEN vd, sd, va` (R191) -/
def execChien (vd : VReg) (sd : SReg) (va : VReg) (s : State) : Answer :=
  finish s do
    requireState s 2
    let x ← readV s va
    let locator ← polyOperand s x
    let s1 ← putV s vd (chien s.field locator)
    return putS s1 sd (chien s.field locator).length

/-- `DEC vm, vc, sd, va` (R194): a reject is a result. -/
def execDec (vm vc : VReg) (sd : SReg) (va : VReg) (s : State) : Answer :=
  finish s do
    requireLegal s (.dec vm vc sd va)
    requireState s 2
    let x ← readV s va
    let r ← bitOperand s.n.toNat .wrongCodewordLength x
    putDecoded s vm vc sd (bchDecode s.codec r)

end Sys2Proof.Machine
end

