-- ==== Sys2Proof/Machine/AltDecode.lean ====
section
/-! DEFINITION. The ALT unit (45_bch_decode_alt.md): the Berlekamp-Massey decode and the Meggitt-style cyclic-shift
decode, and the commands `DECBM` and `DECMG`. -/

namespace Sys2Proof.Machine

/-- The variables of the Berlekamp-Massey iteration (R211). -/
structure BmState where
  C : List Nat
  B : List Nat
  L : Nat
  m : Nat
  b : Nat
  deriving DecidableEq, Repr

/-- The discrepancy of step `r` (R211). -/
def bmDiscrepancy (F : Field) (S : List Nat) (x : BmState) (r : Nat) : Nat :=
  gfAdd (S.getD r 0) (gfSum ((List.range' 1 x.L).map fun i =>
    if i < x.C.length then gfMul F (x.C.getD i 0) (S.getD (r - i) 0) else 0))

/-- Step `r` of the iteration (R211). -/
def bmStep (F : Field) (S : List Nat) (x : BmState) (r : Nat) : BmState :=
  let d := bmDiscrepancy F S x r
  if d = 0 then { x with m := x.m + 1 }
  else
    let coef := gfMul F d (gfInv F x.b)
    let C' := polyAdd x.C (List.replicate x.m 0 ++ x.B.map (gfMul F coef))
    if 2 * x.L ≤ r then ⟨C', x.C, r + 1 - x.L, 1, d⟩
    else { x with C := C', m := x.m + 1 }

/-- `bmLocator(S)` (R211) -/
def bmLocator (F : Field) (S : List Nat) : List Nat :=
  ((List.range S.length).foldl (bmStep F S) ⟨[1], [1], 0, 1, 1⟩).C

/-- `bchDecodeBM(r)` (R212) -/
def bchDecodeBM (c : Codec) (r : List Nat) : Decoded :=
  let S := syndromes c.field c.t r
  if ∀ x ∈ S, x = 0 then ⟨msgOf c r, r, 0, drClean⟩
  else
    let C := bmLocator c.field S
    if polyDeg C = 0 ∨ polyDeg C > c.t then rejected c r drNoSolution
    else locateAndFlip c r C (polyDeg C)

/-- `DECBM vm, vc, sd, va` (R213) -/
def execDecbm (vm vc : VReg) (sd : SReg) (va : VReg) (s : State) : Answer :=
  finish s do
    requireLegal s (.decbm vm vc sd va)
    requireState s 2
    let x ← readV s va
    let r ← bitOperand s.n.toNat .wrongCodewordLength x
    putDecoded s vm vc sd (bchDecodeBM s.codec r)

/-- `rotR(w)`: one position toward the higher index (R214). -/
def rotR (w : List Nat) : List Nat := w.drop (w.length - 1) ++ w.take (w.length - 1)

/-- `rotL(w)`, the inverse of `rotR` (R214). -/
def rotL (w : List Nat) : List Nat := w.drop 1 ++ w.take 1

/-- `remSyndrome(w)` (R215) -/
def remSyndrome (c : Codec) (w : List Nat) : Except Err (List Nat) := do
  let (_, rem) ← polyDiv c.field w c.gen
  return rem

/-- The passes of R216 from `shifts` on, `fuel` of them left; `w` is `r` rotated `shifts` times. -/
def meggittLoop (c : Codec) (r : List Nat) : Nat → Nat → List Nat → Except Err Decoded
  | 0, _, _ => .ok (rejected c r drShiftsExhausted)
  | fuel + 1, shifts, w =>
    match remSyndrome c w with
    | .error e => .error e
    | .ok syn =>
      let wt := syn.count 1
      if shifts = 0 ∧ wt = 0 then .ok ⟨msgOf c r, r, 0, drClean⟩
      else if wt ≤ c.t then
        let u := rotL^[shifts] (addAt 0 w syn)
        .ok ⟨msgOf c u, u, wt, drCorrected⟩
      else meggittLoop c r fuel (shifts + 1) (rotR w)

/-- `bchDecodeMG(r)`: n + 1 passes, shifts = 0 .. n (R216). -/
def bchDecodeMG (c : Codec) (r : List Nat) : Except Err Decoded := meggittLoop c r (c.field.n + 1) 0 r

/-- `DECMG vm, vc, sd, va` (R217) -/
def execDecmg (vm vc : VReg) (sd : SReg) (va : VReg) (s : State) : Answer :=
  finish s do
    requireLegal s (.decmg vm vc sd va)
    requireState s 2
    let x ← readV s va
    let r ← bitOperand s.n.toNat .wrongCodewordLength x
    let d ← bchDecodeMG s.codec r
    putDecoded s vm vc sd d

end Sys2Proof.Machine
end

