-- ==== Sys2Proof/Machine/ReedSolomon.lean ====
section
/-! DEFINITION. The RS unit (46_rs_codec.md): evaluation-form Reed-Solomon over GF(P), and the commands `RSINTERP`,
`RSVERIFY`, `RSDEC`, `RSDECMV`. It uses none of the GF(2^m) state and runs in every `STATE` (R230). -/

namespace Sys2Proof.Machine

/-! ### Arithmetic of GF(P) (R231) -/

/-- `fAdd(a, b)` (R231) -/
def fAdd (P a b : Nat) : Nat := (a + b) % P

/-- `fSub(a, b)`, with the floored modulus (R231, R10). -/
def fSub (P a b : Nat) : Nat := (((a : Int) - b) % P).toNat

/-- `fMul(a, b)` (R231) -/
def fMul (P a b : Nat) : Nat := a * b % P

/-- `fInv(a)`: the c in 1 .. P-1 with (a * c) mod P = 1 (R231); where there is none, which no caller reaches, it has no
value. -/
def fInv (P a : Nat) : Nat :=
  ((List.range' 1 (P - 1)).find? fun c => a * c % P = 1).getD Config.noModInverse

/-- `fDiv(a, b)` for b ≠ 0 (R231) -/
def fDiv (P a b : Nat) : Nat := fMul P a (fInv P b)

/-- `fAdd` over a sequence, the empty sum 0 (R232). -/
def fSum (P : Nat) (xs : List Nat) : Nat := xs.foldl (fAdd P) 0

/-- `rsEval(c, x)` (R232) -/
def rsEval (P : Nat) (c : List Nat) (x : Nat) : Nat :=
  fSum P (c.zipIdx.map fun cj => fMul P cj.1 (x ^ cj.2 % P))

/-! ### Interpolation and verification (R233, R234, R236) -/

/-- The product of `num` and the factor x - xj, one entry longer (R234). -/
def timesLinear (P : Nat) (num : List Nat) (xj : Nat) : List Nat :=
  (List.range (num.length + 1)).map fun a =>
    fSub P (if a = 0 then 0 else num.getD (a - 1) 0) (fMul P (num.getD a 0) xj)

/-- The indices below `cnt` other than `i`, ascending (R234). -/
def others (cnt i : Nat) : List Nat := (List.range cnt).filter (· ≠ i)

/-- The numerator of the basis polynomial of point `i` (R234). -/
def basisNum (P : Nat) (xs : List Nat) (i : Nat) : List Nat :=
  (others xs.length i).foldl (fun num j => timesLinear P num (xs.getD j 0)) [1]

/-- The denominator of the basis polynomial of point `i` (R234). -/
def basisDen (P : Nat) (xs : List Nat) (i : Nat) : Nat :=
  (others xs.length i).foldl (fun den j => fMul P den (fSub P (xs.getD i 0) (xs.getD j 0))) 1

/-- `rsInterp(xs, ys)`, as many coefficients as points (R234). -/
def rsInterp (P : Nat) (xs ys : List Nat) : List Nat :=
  (List.range xs.length).foldl
    (fun acc i =>
      let num := basisNum P xs i
      let c := fDiv P (ys.getD i 0) (basisDen P xs i)
      (List.range xs.length).map fun a => fAdd P (acc.getD a 0) (fMul P c (num.getD a 0)))
    (List.replicate xs.length 0)

/-- `rsVerify(xs, ys, c)`: every point fits (R236). -/
def rsVerify (P : Nat) (xs ys c : List Nat) : Bool := (xs.zip ys).all fun xy => rsEval P c xy.1 = xy.2

/-- `dedup(xs, ys)`: triples (index, x, y), the first occurrence of each x kept (R233). -/
def dedup (xs ys : List Nat) : List (Nat × Nat × Nat) :=
  ((xs.zip ys).zipIdx.filter fun p => p.1.1 ∉ xs.take p.2).map fun p => (p.2, p.1.1, p.1.2)

/-! ### Decode by single exclusion (R239) -/

/-- The attempt of R239 that excludes point `q`: its coefficients, when all the remaining points fit. -/
def tryExclude (P d : Nat) (X Y : List Nat) (q : Nat) : Option (List Nat) :=
  let RX := X.eraseIdx q
  let RY := Y.eraseIdx q
  let c := rsInterp P (RX.take (d + 1)) (RY.take (d + 1))
  if rsVerify P RX RY c then some c else none

/-- The loop of R239: the first point whose exclusion explains all mismatches, with its index and the coefficients. -/
def excludeLoop (P d : Nat) (X Y indices : List Nat) : List Nat → Option (List Nat × Nat)
  | [] => none
  | q :: rest =>
    match tryExclude P d X Y q with
    | some c => some (c, indices.getD q 0)
    | none => excludeLoop P d X Y indices rest

/-- `rsDecode(xs, ys, d)`: coefficients, errorLocator, errorCount (R239). -/
def rsDecode (P : Nat) (xs ys : List Nat) (d : Nat) : Except Err (List Nat × Int × Int) :=
  let pts := dedup xs ys
  if pts.length < d + 1 then .error .wrongPointCount
  else
    let X := pts.map fun p => p.2.1
    let Y := pts.map fun p => p.2.2
    let c0 := rsInterp P (X.take (d + 1)) (Y.take (d + 1))
    if rsVerify P X Y c0 then .ok (c0, -1, 0)
    else
      match excludeLoop P d X Y (pts.map Prod.fst) (List.range pts.length) with
      | some (c, index) => .ok (c, index, 1)
      | none => .ok (c0, -1, 2)

/-! ### Decode by majority vote (R241, R242) -/

/-- The combinations of `k` entries of an ascending list, in lexicographic order (R241). -/
def combinations : Nat → List Nat → List (List Nat)
  | 0, _ => [[]]
  | _ + 1, [] => []
  | k + 1, x :: xs => (combinations k xs).map (x :: ·) ++ combinations (k + 1) xs

/-- A list of candidate polynomials, each with the combinations that gave it (R242). -/
abbrev Groups := List (List Nat × List (List Nat))

/-- Adds a combination to the group of its coefficients, or starts a group at the end (R242). -/
def addToGroups (c T : List Nat) : Groups → Groups
  | [] => [(c, [T])]
  | (c', Ts) :: rest => if c' = c then (c', Ts ++ [T]) :: rest else (c', Ts) :: addToGroups c T rest

/-- The groups of all combinations that can be interpolated (R242). -/
def rsGroups (P : Nat) (xs ys : List Nat) (d : Nat) : Groups :=
  (combinations (d + 1) (List.range xs.length)).foldl
    (fun groups T =>
      let tx := T.map fun i => xs.getD i 0
      if tx.Nodup then addToGroups (rsInterp P tx (T.map fun i => ys.getD i 0)) T groups else groups)
    []

/-- The group with the most combinations, among equals the earliest (R242). -/
def bestGroup : Groups → Option (List Nat × List (List Nat))
  | [] => none
  | g :: rest => some (rest.foldl (fun best g => if best.2.length < g.2.length then g else best) g)

/-- `rsDecodeMV(xs, ys, d)`: coefficients and flagged indices, whose number is the errorCount (R242). -/
def rsDecodeMV (P : Nat) (xs ys : List Nat) (d : Nat) : Except Err (List Nat × List Nat) :=
  if xs.length < d + 1 then .error .wrongPointCount
  else
    match bestGroup (rsGroups P xs ys d) with
    | none => .error .wrongPointCount
    | some best => .ok (best.1, (List.range xs.length).filter fun i => ∀ T ∈ best.2, i ∉ T)

/-! ### The commands -/

/-- `RSINTERP vd, vx, vy` (R235) -/
def execRsinterp (vd vx vy : VReg) (s : State) : Answer :=
  finish s do
    requireLegal s (.rsinterp vd vx vy)
    let x ← readV s vx
    let y ← readV s vy
    let (xs, ys) ← pointOperands s x y
    ensure xs.Nodup .duplicateX
    putV s vd (rsInterp s.rsp.toNat xs ys)

/-- `RSVERIFY sd, vx, vy, vc` (R237) -/
def execRsverify (sd : SReg) (vx vy vc : VReg) (s : State) : Answer :=
  finish s do
    requireLegal s (.rsverify sd vx vy vc)
    let x ← readV s vx
    let y ← readV s vy
    let c ← readV s vc
    let (xs, ys) ← pointOperands s x y
    ensure (∀ e ∈ c, e.toNat < s.rsp.toNat) .elementOutOfRange
    return putS s sd (if rsVerify s.rsp.toNat xs ys (elems c) then 1 else 0)

/-- `RSDEC vc, sl, se, vx, vy, sg` (R240): errorCount 2 is a result. -/
def execRsdec (vc : VReg) (sl se : SReg) (vx vy : VReg) (sg : SReg) (s : State) : Answer :=
  finish s do
    requireLegal s (.rsdec vc sl se vx vy sg)
    let x ← readV s vx
    let y ← readV s vy
    let d ← readS s sg
    let (xs, ys) ← pointOperands s x y
    ensure (0 ≤ d.toInt) .indexOutOfRange
    let (c, loc, cnt) ← rsDecode s.rsp.toNat xs ys d.toInt.toNat
    let s1 ← putV s vc c
    return putS (putS s1 sl loc) se cnt

/-- `RSDECMV vc, vl, se, vx, vy, sg` (R243): a point index must fit a vector entry. -/
def execRsdecmv (vc vl : VReg) (se : SReg) (vx vy : VReg) (sg : SReg) (s : State) : Answer :=
  finish s do
    requireLegal s (.rsdecmv vc vl se vx vy sg)
    let x ← readV s vx
    let y ← readV s vy
    let d ← readS s sg
    let (xs, ys) ← pointOperands s x y
    ensure (0 ≤ d.toInt) .indexOutOfRange
    ensure (xs.length ≤ 256) .lengthOverflow
    let (c, flagged) ← rsDecodeMV s.rsp.toNat xs ys d.toInt.toNat
    let s1 ← putV s vc c
    let s2 ← putV s1 vl flagged
    return putS s2 se flagged.length

end Sys2Proof.Machine
end

