-- ==== Sys2Proof/Machine/System.lean ====
section
/-! DEFINITION. The system and data movement commands (47_data_system.md): `NOP`, `SLI`, `SMOV`, `RDCR`, `CLRERR`,
`VZERO`, `VSET`, `VGET`, `VLEN`, `VMOV`. They run in every `STATE`. -/

namespace Sys2Proof.Machine

/-- `NOP` (R260) -/
def execNop (s : State) : Answer := finish s (.ok s)

/-- `SLI sd, imm` (R261) -/
def execSli (sd : SReg) (imm : BitVec 16) (s : State) : Answer := finish s (.ok (putS s sd imm.toInt))

/-- `SMOV sd, sa` (R262) -/
def execSmov (sd sa : SReg) (s : State) : Answer :=
  finish s do
    let a ← readS s sa
    return putS s sd a.toInt

/-- `RDCR sd, cr` (R263): the value read is the one before this command's own update of `ERR`. -/
def execRdcr (sd : SReg) (cr : BitVec 16) (s : State) : Answer :=
  finish s do
    let x ← readCR s cr.toNat
    return s.setScalar sd x

/-- `ERRSTICKY <- 0` (R264) -/
def clearSticky (s : State) : State := { s with errsticky := 0 }

/-- `CLRERR` (R264) -/
def execClrerr (s : State) : Answer := finish s (.ok (clearSticky s))

/-- `VZERO vd, sa` (R265) -/
def execVzero (vd : VReg) (sa : SReg) (s : State) : Answer :=
  finish s do
    let l ← readS s sa
    ensure (0 ≤ l.toInt) .indexOutOfRange
    ensure (l.toInt ≤ s.vlmax.toNat) .lengthOverflow
    return s.setVector vd (List.replicate l.toInt.toNat 0)

/-- `VSET vd, sa, sb` (R266): `vd` is read as well as written. -/
def execVset (vd : VReg) (sa sb : SReg) (s : State) : Answer :=
  finish s do
    let i ← readS s sa
    let x ← readS s sb
    let old ← readV s vd
    ensure (0 ≤ i.toInt ∧ i.toInt < old.length) .indexOutOfRange
    ensure (0 ≤ x.toInt ∧ x.toInt ≤ 255) .elementOutOfRange
    return s.setVector vd (old.set i.toInt.toNat (BitVec.ofInt 8 x.toInt))

/-- `VGET sd, va, sb` (R267) -/
def execVget (sd : SReg) (va : VReg) (sb : SReg) (s : State) : Answer :=
  finish s do
    let i ← readS s sb
    let a ← readV s va
    ensure (0 ≤ i.toInt ∧ i.toInt < a.length) .indexOutOfRange
    return putS s sd ((elems a).getD i.toInt.toNat 0)

/-- `VLEN sd, va` (R268) -/
def execVlen (sd : SReg) (va : VReg) (s : State) : Answer :=
  finish s do
    let a ← readV s va
    return putS s sd a.length

/-- `VMOV vd, va` (R269) -/
def execVmov (vd va : VReg) (s : State) : Answer :=
  finish s do
    let a ← readV s va
    return s.setVector vd a

end Sys2Proof.Machine
end

