-- ==== Sys2Proof/Machine/Dispatch.lean ====
section
/-! DEFINITION. The dispatch of a decoded command to its meaning, one arm per constructor of `Instr`. -/

namespace Sys2Proof.Machine

def exec (i : Instr) (s : State) : Host.Outcome State Fault Refusal :=
  match i with
  | .nop => Sys2Proof.Machine.execNop s
  | .sli sd imm => Sys2Proof.Machine.execSli sd imm s
  | .smov sd sa => Sys2Proof.Machine.execSmov sd sa s
  | .rdcr sd cr => Sys2Proof.Machine.execRdcr sd cr s
  | .clrerr => Sys2Proof.Machine.execClrerr s
  | .vzero vd sa => Sys2Proof.Machine.execVzero vd sa s
  | .vset vd sa sb => Sys2Proof.Machine.execVset vd sa sb s
  | .vget sd va sb => Sys2Proof.Machine.execVget sd va sb s
  | .vlen sd va => Sys2Proof.Machine.execVlen sd va s
  | .vmov vd va => Sys2Proof.Machine.execVmov vd va s
  | .gfinit sa sb => Sys2Proof.Machine.execGfinit sa sb s
  | .gfadd sd sa sb => Sys2Proof.Machine.execGfadd sd sa sb s
  | .gfmul sd sa sb => Sys2Proof.Machine.execGfmul sd sa sb s
  | .gfpow sd sa sb => Sys2Proof.Machine.execGfpow sd sa sb s
  | .gfinv sd sa => Sys2Proof.Machine.execGfinv sd sa s
  | .ldexp sd sa => Sys2Proof.Machine.execLdexp sd sa s
  | .ldlog sd sa => Sys2Proof.Machine.execLdlog sd sa s
  | .pdeg sd va => Sys2Proof.Machine.execPdeg sd va s
  | .pmul vd va vb => Sys2Proof.Machine.execPmul vd va vb s
  | .pdiv vq vr va vb => Sys2Proof.Machine.execPdiv vq vr va vb s
  | .pgcd vd va vb => Sys2Proof.Machine.execPgcd vd va vb s
  | .plcm vd va vb => Sys2Proof.Machine.execPlcm vd va vb s
  | .cosets vd ve sa => Sys2Proof.Machine.execCosets vd ve sa s
  | .minpoly vd va => Sys2Proof.Machine.execMinpoly vd va s
  | .genpoly vd sa => Sys2Proof.Machine.execGenpoly vd sa s
  | .bchinit sa => Sys2Proof.Machine.execBchinit sa s
  | .ldgen vd => Sys2Proof.Machine.execLdgen vd s
  | .enc vd va => Sys2Proof.Machine.execEnc vd va s
  | .synd vd va => Sys2Proof.Machine.execSynd vd va s
  | .peterson vd sd va => Sys2Proof.Machine.execPeterson vd sd va s
  | .chien vd sd va => Sys2Proof.Machine.execChien vd sd va s
  | .dec vm vc sd va => Sys2Proof.Machine.execDec vm vc sd va s
  | .decbm vm vc sd va => Sys2Proof.Machine.execDecbm vm vc sd va s
  | .decmg vm vc sd va => Sys2Proof.Machine.execDecmg vm vc sd va s
  | .rsinterp vd vx vy => Sys2Proof.Machine.execRsinterp vd vx vy s
  | .rsverify sd vx vy vc => Sys2Proof.Machine.execRsverify sd vx vy vc s
  | .rsdec vc sl se vx vy sg => Sys2Proof.Machine.execRsdec vc sl se vx vy sg s
  | .rsdecmv vc vl se vx vy sg => Sys2Proof.Machine.execRsdecmv vc vl se vx vy sg s

end Sys2Proof.Machine
end

