-- ==== Sys2Proof/Decode.lean ====
section
/-! DEFINITION. Decoding, total on every 32-bit word, with every refusal named (R70-R78), and the encoder written from
the same table (R76). -/

namespace Sys2Proof

/-- Why a word is no command (R74, R77). Every one of them raises `IllegalCommand`. -/
inductive DecodeError where
  /-- The opcode byte is not in the map of R75. -/
  | reservedOpcode
  /-- A field that R76 marks unused, or bits 19:16 of a format I word, is not zero. -/
  | unusedFieldNonzero
  /-- The command belongs to a unit the build lacks (R37). -/
  | absentUnit
  /-- One register is named as two destinations of one file (R24). -/
  | sameDestination
  /-- A serialised command that is not exactly four bytes long (R54, R70). -/
  | notOneWord
  deriving DecidableEq, Repr

/-- `w[lo+3:lo]`, a register number (R71). -/
def regField (w : Word) (lo : Nat) : Fin 16 := ⟨w.toNat / 2 ^ lo % 16, Nat.mod_lt _ (by decide)⟩

/-- `w[31:24]`, the opcode byte (R71). -/
def opcodeField (w : Word) : Nat := w.toNat / 2 ^ 24

/-- A format R word with `k` operands: every later field must be 0000 (R71, R77). -/
def formatR (w : Word) (k : Nat) (i : Instr) : Except DecodeError Instr :=
  if w.toNat % 2 ^ (24 - 4 * k) = 0 then .ok i else .error .unusedFieldNonzero

/-- A format I word: bits 19:16 must be 0000, and `imm16 = w[15:0]` (R72, R73). -/
def formatI (w : Word) (i : BitVec 16 → Instr) : Except DecodeError Instr :=
  if w.toNat / 2 ^ 16 % 16 = 0 then .ok (i (BitVec.ofNat 16 w.toNat)) else .error .unusedFieldNonzero

/-- The command whose opcode and fields the word has, before the two checks on the command (R74-R76). -/
def decodeFields (w : Word) : Except DecodeError Instr :=
  let f1 := regField w 20
  let f2 := regField w 16
  let f3 := regField w 12
  let f4 := regField w 8
  let f5 := regField w 4
  let f6 := regField w 0
  match opcodeField w with
  | 0x01 => formatR w 0 .nop
  | 0x02 => formatI w (.sli f1)
  | 0x03 => formatR w 2 (.smov f1 f2)
  | 0x04 => formatI w (.rdcr f1)
  | 0x05 => formatR w 0 .clrerr
  | 0x08 => formatR w 2 (.vzero f1 f2)
  | 0x09 => formatR w 3 (.vset f1 f2 f3)
  | 0x0A => formatR w 3 (.vget f1 f2 f3)
  | 0x0B => formatR w 2 (.vlen f1 f2)
  | 0x0C => formatR w 2 (.vmov f1 f2)
  | 0x10 => formatR w 2 (.gfinit f1 f2)
  | 0x11 => formatR w 3 (.gfadd f1 f2 f3)
  | 0x12 => formatR w 3 (.gfmul f1 f2 f3)
  | 0x13 => formatR w 3 (.gfpow f1 f2 f3)
  | 0x14 => formatR w 2 (.gfinv f1 f2)
  | 0x15 => formatR w 2 (.ldexp f1 f2)
  | 0x16 => formatR w 2 (.ldlog f1 f2)
  | 0x20 => formatR w 2 (.pdeg f1 f2)
  | 0x21 => formatR w 3 (.pmul f1 f2 f3)
  | 0x22 => formatR w 4 (.pdiv f1 f2 f3 f4)
  | 0x23 => formatR w 3 (.pgcd f1 f2 f3)
  | 0x24 => formatR w 3 (.plcm f1 f2 f3)
  | 0x30 => formatR w 3 (.cosets f1 f2 f3)
  | 0x31 => formatR w 2 (.minpoly f1 f2)
  | 0x32 => formatR w 2 (.genpoly f1 f2)
  | 0x33 => formatR w 1 (.bchinit f1)
  | 0x34 => formatR w 1 (.ldgen f1)
  | 0x40 => formatR w 2 (.enc f1 f2)
  | 0x41 => formatR w 2 (.synd f1 f2)
  | 0x42 => formatR w 3 (.peterson f1 f2 f3)
  | 0x43 => formatR w 3 (.chien f1 f2 f3)
  | 0x44 => formatR w 4 (.dec f1 f2 f3 f4)
  | 0x45 => formatR w 4 (.decbm f1 f2 f3 f4)
  | 0x46 => formatR w 4 (.decmg f1 f2 f3 f4)
  | 0x50 => formatR w 3 (.rsinterp f1 f2 f3)
  | 0x51 => formatR w 4 (.rsverify f1 f2 f3 f4)
  | 0x52 => formatR w 6 (.rsdec f1 f2 f3 f4 f5 f6)
  | 0x53 => formatR w 6 (.rsdecmv f1 f2 f3 f4 f5 f6)
  | _ => .error .reservedOpcode

/-- The two checks on the command a word's fields spell (R74). -/
def checkCommand (feat : BitVec 3) (i : Instr) : Except DecodeError Instr :=
  if i.unitPresent feat = false then .error .absentUnit
  else if i.distinctDests = false then .error .sameDestination
  else .ok i

/-- Decoding in a build whose constant `FEAT` is `feat`; it reads no other state (R74). -/
def decode (feat : BitVec 3) (w : Word) : Except DecodeError Instr :=
  match decodeFields w with
  | .error e => .error e
  | .ok i => checkCommand feat i

/-- The opcode byte of a command (R75). -/
def Instr.opcode : Instr → Nat
  | .nop => 0x01
  | .sli _ _ => 0x02
  | .smov _ _ => 0x03
  | .rdcr _ _ => 0x04
  | .clrerr => 0x05
  | .vzero _ _ => 0x08
  | .vset _ _ _ => 0x09
  | .vget _ _ _ => 0x0A
  | .vlen _ _ => 0x0B
  | .vmov _ _ => 0x0C
  | .gfinit _ _ => 0x10
  | .gfadd _ _ _ => 0x11
  | .gfmul _ _ _ => 0x12
  | .gfpow _ _ _ => 0x13
  | .gfinv _ _ => 0x14
  | .ldexp _ _ => 0x15
  | .ldlog _ _ => 0x16
  | .pdeg _ _ => 0x20
  | .pmul _ _ _ => 0x21
  | .pdiv _ _ _ _ => 0x22
  | .pgcd _ _ _ => 0x23
  | .plcm _ _ _ => 0x24
  | .cosets _ _ _ => 0x30
  | .minpoly _ _ => 0x31
  | .genpoly _ _ => 0x32
  | .bchinit _ => 0x33
  | .ldgen _ => 0x34
  | .enc _ _ => 0x40
  | .synd _ _ => 0x41
  | .peterson _ _ _ => 0x42
  | .chien _ _ _ => 0x43
  | .dec _ _ _ _ => 0x44
  | .decbm _ _ _ _ => 0x45
  | .decmg _ _ _ _ => 0x46
  | .rsinterp _ _ _ => 0x50
  | .rsverify _ _ _ _ => 0x51
  | .rsdec _ _ _ _ _ _ => 0x52
  | .rsdecmv _ _ _ _ _ _ => 0x53

/-- The word of a format R command (R76). -/
def packR (op : Nat) (f1 f2 f3 f4 f5 f6 : Fin 16) : Word :=
  BitVec.ofNat 32 (op * 2 ^ 24 + f1 * 2 ^ 20 + f2 * 2 ^ 16 + f3 * 2 ^ 12 + f4 * 2 ^ 8 + f5 * 2 ^ 4 + f6)

/-- The word of a format I command (R76). -/
def packI (op : Nat) (f1 : Fin 16) (imm : BitVec 16) : Word :=
  BitVec.ofNat 32 (op * 2 ^ 24 + f1 * 2 ^ 20 + imm.toNat)

/-- The word of a command (R76). -/
def encode : Instr → Word
  | .nop => packR 0x01 0 0 0 0 0 0
  | .sli sd imm => packI 0x02 sd imm
  | .smov sd sa => packR 0x03 sd sa 0 0 0 0
  | .rdcr sd cr => packI 0x04 sd cr
  | .clrerr => packR 0x05 0 0 0 0 0 0
  | .vzero vd sa => packR 0x08 vd sa 0 0 0 0
  | .vset vd sa sb => packR 0x09 vd sa sb 0 0 0
  | .vget sd va sb => packR 0x0A sd va sb 0 0 0
  | .vlen sd va => packR 0x0B sd va 0 0 0 0
  | .vmov vd va => packR 0x0C vd va 0 0 0 0
  | .gfinit sa sb => packR 0x10 sa sb 0 0 0 0
  | .gfadd sd sa sb => packR 0x11 sd sa sb 0 0 0
  | .gfmul sd sa sb => packR 0x12 sd sa sb 0 0 0
  | .gfpow sd sa sb => packR 0x13 sd sa sb 0 0 0
  | .gfinv sd sa => packR 0x14 sd sa 0 0 0 0
  | .ldexp sd sa => packR 0x15 sd sa 0 0 0 0
  | .ldlog sd sa => packR 0x16 sd sa 0 0 0 0
  | .pdeg sd va => packR 0x20 sd va 0 0 0 0
  | .pmul vd va vb => packR 0x21 vd va vb 0 0 0
  | .pdiv vq vr va vb => packR 0x22 vq vr va vb 0 0
  | .pgcd vd va vb => packR 0x23 vd va vb 0 0 0
  | .plcm vd va vb => packR 0x24 vd va vb 0 0 0
  | .cosets vd ve sa => packR 0x30 vd ve sa 0 0 0
  | .minpoly vd va => packR 0x31 vd va 0 0 0 0
  | .genpoly vd sa => packR 0x32 vd sa 0 0 0 0
  | .bchinit sa => packR 0x33 sa 0 0 0 0 0
  | .ldgen vd => packR 0x34 vd 0 0 0 0 0
  | .enc vd va => packR 0x40 vd va 0 0 0 0
  | .synd vd va => packR 0x41 vd va 0 0 0 0
  | .peterson vd sd va => packR 0x42 vd sd va 0 0 0
  | .chien vd sd va => packR 0x43 vd sd va 0 0 0
  | .dec vm vc sd va => packR 0x44 vm vc sd va 0 0
  | .decbm vm vc sd va => packR 0x45 vm vc sd va 0 0
  | .decmg vm vc sd va => packR 0x46 vm vc sd va 0 0
  | .rsinterp vd vx vy => packR 0x50 vd vx vy 0 0 0
  | .rsverify sd vx vy vc => packR 0x51 sd vx vy vc 0 0
  | .rsdec vc sl se vx vy sg => packR 0x52 vc sl se vx vy sg
  | .rsdecmv vc vl se vx vy sg => packR 0x53 vc vl se vx vy sg

/-- A 32-bit quantity as a host serialises it over a byte channel: little-endian, bits 7:0 first (R54). -/
def wordToBytes (w : Word) : List Byte :=
  [w.extractLsb' 0 8, w.extractLsb' 8 8, w.extractLsb' 16 8, w.extractLsb' 24 8]

/-- The 32-bit quantity four serialised bytes stand for (R54). -/
def bytesToWord (b0 b1 b2 b3 : Byte) : Word := b3 ++ b2 ++ b1 ++ b0

/-- Decoding of a serialised command (R54, R70), total on any bytes. -/
def decodeBytes (feat : BitVec 3) : List Byte → Except DecodeError Instr
  | [b0, b1, b2, b3] => decode feat (bytesToWord b0 b1 b2 b3)
  | _ => .error .notOneWord

/-- The command word that the low `nbits` bits of `w` are, every higher bit zero. -/
def tableWord (nbits w : Nat) : Word := BitVec.ofNat 32 (w % 2 ^ nbits)

/-- The host's view of the decoder, in this hardware's build: the command an opcode-table word spells. -/
def decodeTableWord (nbits w : Nat) : Option Instr :=
  match decodeBytes Config.feat (wordToBytes (tableWord nbits w)) with
  | .ok i => some i
  | .error _ => none

end Sys2Proof
end

