-- ==== Sys2Proof/Machine/Port.lean ====
section
/-! DEFINITION. The host port (R45): taking the next operation, and what each operation but the execution of a command
does. Host reads and writes change neither `ERR` nor `ERRSTICKY` nor `DREASON`. -/

namespace Sys2Proof.Machine

/-- The next operation of the host and the state in which it is performed; `none` when the engine waits (R45, R341). -/
def takeOp (s : State) : Option (HostOp × State) :=
  match s.port with
  | [] => none
  | op :: rest => some (op, { s with port := rest })

/-- The value a port operation returns. -/
def State.answer (s : State) (r : HostReply) : State := { s with reply := r }

/-- `HostIssue` returns the new `ERR` (R45). -/
def issueReply (a : Answer) : Answer :=
  match a with
  | .next t => .next (t.answer (.err t.err))
  | .fault r => .fault r
  | .refused r => .refused r

/-- A word that spells no command raises `IllegalCommand`, whatever its defect (R74, R77). -/
def illegalWord (_ : DecodeError) (s : State) : Answer := .next (raise .illegalCommand s)

/-- The next free value has been used. -/
def State.useFree (s : State) : State := { s with freeIdx := s.freeIdx + 1 }

/-- `HostReadS(i)`: beside the valid bit 0 the value is a free value (R45, U9; log entry 4). -/
def hostReadS (i : SReg) (s : State) : State :=
  if s.scalars[i].valid then s.answer (.scalar true s.scalars[i].data)
  else s.useFree.answer (.scalar false (Config.freeScalar s.freeIdx))

/-- `HostWriteS(i, x)` (R45) -/
def hostWriteS (i : SReg) (x : Word) (s : State) : State := (s.setScalar i x).answer .nothing

/-- The reply of `HostReadV` for given entries. -/
def vectorReply (valid : Bool) (xs : List Byte) : HostReply := .vector valid xs.length xs

/-- `HostReadV(i)`: beside the valid bit 0 the length, at most `VLMAX`, and the entries are free values (R45, U9, R22;
log entry 4). -/
def hostReadV (i : VReg) (s : State) : State :=
  if s.vectors[i].valid then s.answer (vectorReply true s.vectors[i].entries)
  else s.useFree.answer (vectorReply false ((Config.freeVector s.freeIdx).take s.vlmax.toNat))

/-- `HostWriteV(i, seq)`: allowed only when the length fits and every entry is 0..255, otherwise not performed (R45). -/
def hostWriteV (i : VReg) (seq : List Int) (s : State) : State :=
  if seq.length ≤ s.vlmax.toNat ∧ ∀ x ∈ seq, 0 ≤ x ∧ x ≤ 255 then
    (s.setVector i (seq.map (BitVec.ofInt 8))).answer .nothing
  else s.answer .nothing

/-- `HostReadCR(c)`: the value `RDCR` would write, or "no value" where `RDCR` would raise an error (R45, R263). -/
def hostReadCR (c : Nat) (s : State) : State :=
  match readCR s c with
  | .ok x => s.answer (.control (some x))
  | .error _ => s.answer (.control none)

/-- `HostReset()`: every piece of the spec's state to its reset value (R45, R340). The constants of the build stay what
they are, for nothing writes them (R29, R37, R42; log entry 12); what the host will do next, and which free value comes
next, are not the engine's (log entry 11). -/
def hostReset (s : State) : State :=
  { State.reset with
    ident := s.ident, feat := s.feat, vlmax := s.vlmax, rsp := s.rsp, defaultPrims := s.defaultPrims,
    port := s.port, freeIdx := s.freeIdx }

end Sys2Proof.Machine
end

