-- ==== Sys2Proof/Machine/Step.lean ====
section
/-! DEFINITION. One step: the next operation of the host port, performed whole (R8, R45, R59, R64). With none the engine
waits (R341; log entry 2). -/

namespace Sys2Proof.Machine

/-- `HostIssue(word)`: the engine executes the command to completion and returns the new `ERR` (R45). -/
def issue (w : Word) (s : State) : Answer :=
  match decode s.feat w with
  | .error e => issueReply (illegalWord e s)
  | .ok i => issueReply (exec i s)

/-- One step of the machine: the host's next operation is taken off the queue and performed whole; with none the engine
waits. -/
def step (s : State) : Host.Outcome State Fault Refusal :=
  match takeOp s with
  | none => .next s
  | some (.issue w, t) => issue w t
  | some (.readS i, t) => .next (hostReadS i t)
  | some (.writeS i x, t) => .next (hostWriteS i x t)
  | some (.readV i, t) => .next (hostReadV i t)
  | some (.writeV i seq, t) => .next (hostWriteV i seq t)
  | some (.readCR c, t) => .next (hostReadCR c t)
  | some (.reset, t) => .next (hostReset t)

/-- The state in which the host's next operation issues the given command word (log entry 1). -/
def State.withFetchWord (s : State) (nbits w : Nat) : State :=
  { s with port := .issue (tableWord nbits w) :: s.port }

end Sys2Proof.Machine
end

