-- ==== Sys2Proof/Safety.lean ====
section
/-! DEFINITION. The terms in which claims are stated: what a register holds, equality as polynomials (R12), which fields
`GFINIT` accepts (R102), and the invariant that every step keeps. -/

namespace Sys2Proof.Machine

/-- The scalar register is valid and holds `x` (R21, R23). -/
abbrev holdsS (s : State) (r : SReg) (x : Word) : Prop := s.scalars[r] = ⟨true, x⟩

/-- The vector register is valid and holds `xs` (R22, R23). -/
abbrev holdsV (s : State) (r : VReg) (xs : List Byte) : Prop := s.vectors[r] = ⟨true, xs⟩

/-- The scalar register is unwritten (R23). -/
abbrev unwrittenS (s : State) (r : SReg) : Prop := s.scalars[r].valid = false

/-- The vector register is unwritten (R23). -/
abbrev unwrittenV (s : State) (r : VReg) : Prop := s.vectors[r].valid = false

/-- The state after a scalar register has been written and the command has ended without an error (R23, R305). -/
def wroteS (s : State) (r : SReg) (x : Word) : State :=
  { s with scalars := s.scalars.set r ⟨true, x⟩, err := 0 }

/-- The state after a vector register has been written and the command has ended without an error (R23, R305). -/
def wroteV (s : State) (r : VReg) (xs : List Byte) : State :=
  { s with vectors := s.vectors.set r ⟨true, xs⟩, err := 0 }

/-- The state after a decode command has written message, word, errorCount and `DREASON` (R194, R213, R217). -/
def decodedTo (s : State) (vm vc : VReg) (sd : SReg) (msg word : List Byte) (count : Int) (reason : BitVec 8) : State :=
  { s with
    vectors := (s.vectors.set vm ⟨true, msg⟩).set vc ⟨true, word⟩,
    scalars := s.scalars.set sd ⟨true, BitVec.ofInt 32 count⟩, dreason := reason, err := 0 }

/-- The remainder of a word modulo the installed generator, whose degree is n - k (R171, R215). -/
def remainderOf (s : State) (w : List Nat) : List Nat :=
  (divideBy s.field w (genSeq s) (s.n.toNat - s.k.toNat)).2

/-- The message part of a word, the k entries above the parity (R192). -/
def messagePart (s : State) (xs : List Byte) : List Byte := xs.drop (s.n.toNat - s.k.toNat)

/-- The entries of a vector register for a sequence of integers below 256. -/
def toBytes (xs : List Nat) : List Byte := xs.map (BitVec.ofNat 8)

/-- Equality as polynomials, `p ~ q`: agreement after trailing zeros are removed (R12). -/
def polyEq (p q : List Nat) : Prop := ∀ i, p.getD i 0 = q.getD i 0

/-- Every entry is an element of the configured field (R11). -/
def inField (s : State) (p : List Nat) : Prop := ∀ x ∈ p, x < 2 ^ s.m.toNat

/-- The scalar operand is an element of the configured field (section 3 of 40_gf_field.md). -/
abbrev isElem (s : State) (x : Word) : Prop := 0 ≤ x.toInt ∧ x.toInt < 2 ^ s.m.toNat

/-- Every entry of the vector operand is an element of the configured field (R130). -/
abbrev allElems (s : State) (xs : List Byte) : Prop := ∀ x ∈ xs, x.toNat < 2 ^ s.m.toNat

/-- Every entry of the vector operand is a bit (R170). -/
abbrev allBits (xs : List Byte) : Prop := ∀ x ∈ xs, x.toNat ≤ 1

/-- The scalar operand is a legal t for the configured n (R150). -/
abbrev legalT (s : State) (x : Word) : Prop := 1 ≤ x.toInt ∧ 2 * x.toInt < s.n.toNat

/-- α has multiplicative order n = 2^m - 1 modulo `prim` (R102): no lower power of α is 1, and α^n is 1. -/
def orderIsN (m prim : Nat) : Prop :=
  (∀ i < 2 ^ m - 1, 1 ≤ i → (mulAlpha m prim)^[i] 1 ≠ 1) ∧ (mulAlpha m prim)^[2 ^ m - 1] 1 = 1

/-- The pairs of a degree and a polynomial from which a field is built (R102). -/
def accepted (m prim : Nat) : Prop :=
  (Config.mMin ≤ m ∧ m ≤ Config.mMax) ∧ prim >>> m = 1 ∧ orderIsN m prim

/-- The invariant of the machine: the status registers hold legal values (R29, R31, R32), the constants are this
hardware's (R29), no vector register is longer than `VLMAX` (R22), the memories have their canonical form, what is
invalid holds nothing (R31; log entries 7 and 8), the tables are those of the field in use (R33, R34, R36), and the
generator is that of the codec in use (R35, R36). -/
structure Inv (s : State) : Prop where
  state_legal : s.state.toNat ≤ 2
  err_legal : s.err.toNat ≤ 15
  sticky_legal : s.errsticky &&& 0xFFFF0001#32 = 0
  dreason_legal : s.dreason.toNat ≤ 5
  constants : s.ident = 0x4E524301#32 ∧ s.feat = 7#3 ∧ s.vlmax = 512#16 ∧ s.rsp = 31#8
  vectors_fit : ∀ r : VReg, s.vectors[r].entries.length ≤ 512
  memories : Memory.wf s.exp ∧ Memory.wf s.log ∧ Memory.wf s.gen
  no_field : s.state = 0 → s.exp = [] ∧ s.log = [] ∧ s.m = 0 ∧ s.prim = 0 ∧ s.n = 0
  no_codec : s.state.toNat < 2 → s.gen = [] ∧ s.t = 0 ∧ s.k = 0
  field_built : 1 ≤ s.state.toNat →
    accepted s.m.toNat s.prim.toNat ∧ s.n.toNat = 2 ^ s.m.toNat - 1 ∧ (s.exp, s.log) = gfBuild s.m.toNat s.prim.toNat
  codec_built : s.state = 2 →
    1 ≤ s.t.toNat ∧ 2 * s.t.toNat < s.n.toNat ∧
      ∃ g, genPoly s.field 512 s.t.toNat = .ok g ∧ s.gen = Memory.ofSeq g ∧ s.k = BitVec.ofInt 8 (s.n.toNat - polyDeg g)

/-- The generator of a configured codec: degree n - k, and 1 <= k < n (R35, R156). -/
def genShape (s : State) : Prop :=
  polyDeg (genSeq s) = (s.n.toNat : Int) - s.k.toNat ∧ 1 ≤ s.k.toNat ∧ s.k.toNat < s.n.toNat

/-- The columns match and mask of the table of R76, one pair for each command, in its order. -/
def opcodeTable : List (Word × Word) :=
  [
   (0x01000000#32, 0xFFFFFFFF#32),
   (0x02000000#32, 0xFF0F0000#32),
   (0x03000000#32, 0xFF00FFFF#32),
   (0x04000000#32, 0xFF0F0000#32),
   (0x05000000#32, 0xFFFFFFFF#32),
   (0x08000000#32, 0xFF00FFFF#32),
   (0x09000000#32, 0xFF000FFF#32),
   (0x0A000000#32, 0xFF000FFF#32),
   (0x0B000000#32, 0xFF00FFFF#32),
   (0x0C000000#32, 0xFF00FFFF#32),
   (0x10000000#32, 0xFF00FFFF#32),
   (0x11000000#32, 0xFF000FFF#32),
   (0x12000000#32, 0xFF000FFF#32),
   (0x13000000#32, 0xFF000FFF#32),
   (0x14000000#32, 0xFF00FFFF#32),
   (0x15000000#32, 0xFF00FFFF#32),
   (0x16000000#32, 0xFF00FFFF#32),
   (0x20000000#32, 0xFF00FFFF#32),
   (0x21000000#32, 0xFF000FFF#32),
   (0x22000000#32, 0xFF0000FF#32),
   (0x23000000#32, 0xFF000FFF#32),
   (0x24000000#32, 0xFF000FFF#32),
   (0x30000000#32, 0xFF000FFF#32),
   (0x31000000#32, 0xFF00FFFF#32),
   (0x32000000#32, 0xFF00FFFF#32),
   (0x33000000#32, 0xFF0FFFFF#32),
   (0x34000000#32, 0xFF0FFFFF#32),
   (0x40000000#32, 0xFF00FFFF#32),
   (0x41000000#32, 0xFF00FFFF#32),
   (0x42000000#32, 0xFF000FFF#32),
   (0x43000000#32, 0xFF000FFF#32),
   (0x44000000#32, 0xFF0000FF#32),
   (0x45000000#32, 0xFF0000FF#32),
   (0x46000000#32, 0xFF0000FF#32),
   (0x50000000#32, 0xFF000FFF#32),
   (0x51000000#32, 0xFF0000FF#32),
   (0x52000000#32, 0xFF000000#32),
   (0x53000000#32, 0xFF000000#32)]

/-- The word belongs to a unit the build lacks, read from its opcode byte (R37, R77). -/
def absentUnitWord (feat : BitVec 3) (w : Word) : Prop :=
  (w.extractLsb' 24 8 = 0x45#8 ∧ feat.getLsbD 0 = false) ∨ (w.extractLsb' 24 8 = 0x46#8 ∧ feat.getLsbD 1 = false) ∨
    (w.extractLsb' 28 4 = 5#4 ∧ feat.getLsbD 2 = false)

/-- The word names one register as two destinations of one file, read from its fields (R24, R77). -/
def twiceNamedWord (w : Word) : Prop :=
  (w.extractLsb' 24 8 ∈ [0x22#8, 0x30#8, 0x44#8, 0x45#8, 0x46#8, 0x53#8] ∧ w.extractLsb' 20 4 = w.extractLsb' 16 4) ∨
    (w.extractLsb' 24 8 = 0x52#8 ∧ w.extractLsb' 16 4 = w.extractLsb' 12 4)

/-- The word spells a command in a build whose constant `FEAT` is `feat` (R74, R76, R77). -/
def spellsCommand (feat : BitVec 3) (w : Word) : Prop :=
  (∃ row ∈ opcodeTable, w &&& row.2 = row.1) ∧ ¬ absentUnitWord feat w ∧ ¬ twiceNamedWord w

end Sys2Proof.Machine
end

