-- ==== Sys2Proof/Certificates/Slice0/Obligations.lean ====
section
/-! DEFINITION. The statements for the provers, from the numbered rules of spec/. -/

open Sys2Proof Sys2Proof.Machine

/-! ### Encoding and decoding -/

/-- R74, R76, R54: decoding the word of a well-formed command, or its four serialised bytes, gives the command back. -/
def Obligations.DecodeInvertsEncode : Prop :=
  ∀ (feat : BitVec 3) (i : Instr), WellFormed feat i = true →
    decode feat (encode i) = .ok i ∧ decodeBytes feat (wordToBytes (encode i)) = .ok i

/-- R74: a word that decodes is the word of the command it decodes to, so no command has two words. -/
def Obligations.EncodeInvertsDecode : Prop :=
  ∀ (feat : BitVec 3) (w : Word) (i : Instr), decode feat w = .ok i → encode i = w ∧ WellFormed feat i = true

/-- R74, R76, R77: the words that decode are those that agree with a row of the table of R76 under its mask, belong to a
present unit, and name no register as two destinations. -/
def Obligations.DecoderAcceptsExactlyTheTable : Prop :=
  ∀ (feat : BitVec 3) (w : Word), (∃ i, decode feat w = .ok i) ↔ spellsCommand feat w

/-- Words of 95_test_vectors.md 2.9, one or two of each unit, decode to the commands they stand for. -/
def Obligations.SpecWordsDecode : Prop :=
  decode 7 0x0210FFFF = .ok (.sli 1 0xFFFF) ∧ decode 7 0x0A412000 = .ok (.vget 4 1 2) ∧
  decode 7 0x12312000 = .ok (.gfmul 3 1 2) ∧ decode 7 0x22341200 = .ok (.pdiv 3 4 1 2) ∧
  decode 7 0x30121000 = .ok (.cosets 1 2 1) ∧ decode 7 0x33100000 = .ok (.bchinit 1) ∧
  decode 7 0x40210000 = .ok (.enc 2 1) ∧ decode 7 0x42312000 = .ok (.peterson 3 1 2) ∧
  decode 7 0x46231100 = .ok (.decmg 2 3 1 1) ∧ decode 7 0x53FEFDCE = .ok (.rsdecmv 15 14 15 13 12 14)

/-- R77: a word that spells no command raises `IllegalCommand`, code 6, and has no other effect; the host is answered the
new `ERR` (R45). The all-zero and the all-ones word are such words. The queue of port operations and the reply register are
the model's (log entries 1 and 3). -/
def Obligations.IllegalWordOnlyRaises : Prop :=
  (∀ (s : State) (w : Word) (rest : List HostOp), s.port = .issue w :: rest → ¬ spellsCommand s.feat w →
    step s = .next { s with port := rest, err := 6, errsticky := s.errsticky ||| 0x40#32, reply := .err 6 }) ∧
  (∀ feat : BitVec 3, ¬ spellsCommand feat 0x00000000#32 ∧ ¬ spellsCommand feat 0xFFFFFFFF#32)

/-! ### One step, errors and their order -/

/-- R45: when the host's next operation issues a word that decodes to a command, the step runs that command in the state
with the operation taken off, and answers the new `ERR`. The queue and the reply register are the model's (log entries 1
and 3). -/
def Obligations.StepRunsTheDecodedCommand : Prop :=
  ∀ (s t : State) (w : Word) (rest : List HostOp) (i : Instr), s.port = .issue w :: rest → decode s.feat w = .ok i →
    exec i { s with port := rest } = .next t → step s = .next { t with reply := .err t.err }

/-- R305, R306, R350: every command ends, in every state and with every operands. One that ends with an error has left its
code in `ERR`, set that bit of `ERRSTICKY` and written no destination; all else keeps its value, but where a construction
stopped, which leaves `STATE` 0 or 1 and `DREASON` 0. One that raises nothing leaves `ERR` 0 and `ERRSTICKY` alone, but for
`CLRERR`. -/
def Obligations.ErrorsChangeOnlyTheStatus : Prop :=
  ∀ (i : Instr) (s : State), ∃ t, exec i s = .next t ∧
    (t.err ≠ 0 → ∃ c : Nat, 1 ≤ c ∧ c ≤ 15 ∧ t.err = BitVec.ofNat 8 c ∧ t.errsticky = s.errsticky ||| (1#32 <<< c) ∧
      t.scalars = s.scalars ∧ t.vectors = s.vectors ∧
      (t = { s with err := t.err, errsticky := t.errsticky } ∨
        (∃ sa sb, i = .gfinit sa sb ∧ (c = 1 ∨ c = 2) ∧ t.state = 0 ∧ t.dreason = 0) ∨
        (∃ sa, i = .bchinit sa ∧ s.state ≠ 0 ∧ t.state = 1 ∧ t.dreason = 0))) ∧
    (t.err = 0 → t.errsticky = s.errsticky ∨ i = .clrerr)

/-- R303 (2), R31: a command issued below the `STATE` it needs raises `NotConfigured`, whatever its operands are. -/
def Obligations.NotConfiguredComesFirst : Prop :=
  ∀ (i : Instr) (s : State), WellFormed s.feat i = true → s.state.toNat < i.leastState →
    exec i s = .next { s with err := 7, errsticky := s.errsticky ||| 0x80#32 }

/-- R23: after reset every register is unwritten; in a `STATE` that is high enough, a command that names an unwritten
register as a source raises `OperandUnwritten` and changes nothing else; a write makes a register valid, by a command or by
the host; and nothing but reset makes it unwritten again. -/
def Obligations.UnwrittenRegisters : Prop :=
  ((∀ r : SReg, unwrittenS State.reset r) ∧ (∀ r : VReg, unwrittenV State.reset r)) ∧
  (∀ (i : Instr) (s : State), WellFormed s.feat i = true → i.leastState ≤ s.state.toNat →
    ((∃ r ∈ i.scalarSources, unwrittenS s r) ∨ (∃ r ∈ i.vectorSources, unwrittenV s r)) →
    exec i s = .next { s with err := 8, errsticky := s.errsticky ||| 0x100#32 }) ∧
  (∀ (i : Instr) (s t : State), exec i s = .next t → t.err = 0 →
    (∀ r ∈ i.scalarDests, t.scalars[r].valid = true) ∧ (∀ r ∈ i.vectorDests, t.vectors[r].valid = true)) ∧
  (∀ s t : State, step s = .next t →
    (∀ r x, s.port.head? = some (.writeS r x) → t.scalars[r].valid = true) ∧
    (∀ (r : VReg) (xs : List Byte), xs.length ≤ s.vlmax.toNat →
      s.port.head? = some (.writeV r (xs.map fun x => (x.toNat : Int))) → t.vectors[r].valid = true) ∧
    (s.port.head? ≠ some .reset →
      (∀ r : SReg, s.scalars[r].valid = true → t.scalars[r].valid = true) ∧
      (∀ r : VReg, s.vectors[r].valid = true → t.vectors[r].valid = true)))

/-- R37, R6: a command of an absent unit raises `IllegalCommand`, as a word that the host issues and as a command; no command
and no host operation, a reset among them, changes `ID`, `FEAT`, `VLMAX`, `RSP` or the build's default polynomials. The same error stops a command that names one register as two destinations
(R24). -/
def Obligations.AbsentUnitIsIllegal : Prop :=
  (∀ (i : Instr) (s : State), WellFormed s.feat i = false → exec i s = .next (raise .illegalCommand s)) ∧
  (∀ (i : Instr) (s : State) (rest : List HostOp), i.unitPresent s.feat = false →
    s.port = .issue (encode i) :: rest →
    step s = .next { s with port := rest, err := 6, errsticky := s.errsticky ||| 0x40#32, reply := .err 6 }) ∧
  (∀ (i : Instr) (s t : State), exec i s = .next t →
    t.ident = s.ident ∧ t.feat = s.feat ∧ t.vlmax = s.vlmax ∧ t.rsp = s.rsp ∧ t.defaultPrims = s.defaultPrims) ∧
  (∀ s t : State, step s = .next t →
    t.ident = s.ident ∧ t.feat = s.feat ∧ t.vlmax = s.vlmax ∧ t.rsp = s.rsp ∧ t.defaultPrims = s.defaultPrims)

/-! ### Frames and whole-machine rules -/

/-- R25: a command changes no scalar or vector register but its destinations, and none of the model's own fields. -/
def Obligations.OnlyDestinationsChange : Prop :=
  ∀ (i : Instr) (s t : State), exec i s = .next t →
    (∀ r : SReg, r ∉ i.scalarDests → t.scalars[r] = s.scalars[r]) ∧
    (∀ r : VReg, r ∉ i.vectorDests → t.vectors[r] = s.vectors[r]) ∧
    t.port = s.port ∧ t.reply = s.reply ∧ t.freeIdx = s.freeIdx

/-- R38, R46, R58: but for `HostReset` and a `GFINIT`, no step changes `EXP`, `LOG`, `M`, `PRIM` or `N`; but for those
and a `BCHINIT`, no step changes `GEN`, `T`, `K` or `STATE`. -/
def Obligations.OnlyConstructorsWriteTables : Prop :=
  ∀ s t : State, step s = .next t → s.port.head? ≠ some .reset →
    (∀ w, s.port.head? = some (.issue w) → ∀ sa sb, decode s.feat w ≠ .ok (.gfinit sa sb)) →
    (t.exp = s.exp ∧ t.log = s.log ∧ t.m = s.m ∧ t.prim = s.prim ∧ t.n = s.n) ∧
    ((∀ w, s.port.head? = some (.issue w) → ∀ sa, decode s.feat w ≠ .ok (.bchinit sa)) →
      t.gen = s.gen ∧ t.t = s.t ∧ t.k = s.k ∧ t.state = s.state)

/-- R32: no command's result depends on `ERR`, `ERRSTICKY` or `DREASON`, but for an `RDCR` that reads one of them: two
states that differ there alone lead to states that differ in `ERRSTICKY` and `DREASON` alone. -/
def Obligations.StatusNeverInfluencesResults : Prop :=
  ∀ (i : Instr) (s s' t t' : State),
    (∀ sd cr, i = .rdcr sd cr → cr ≠ 2 ∧ cr ≠ 3 ∧ cr ≠ 4) →
    s' = { s with err := s'.err, errsticky := s'.errsticky, dreason := s'.dreason } →
    exec i s = .next t → exec i s' = .next t' →
    t' = { t with errsticky := t'.errsticky, dreason := t'.dreason }

/-- The invariant of Safety.lean (R22, R29, R31-R36): every step keeps it, whatever the host does. That what is invalid
holds nothing or 0 is the model's choice (log entries 7 and 8), and so is the form of the memories. -/
def Obligations.StepKeepsTheInvariant : Prop :=
  ∀ s t : State, Inv s → step s = .next t → Inv t

/-- The state after reset has the invariant (R42; log entries 7 and 8 as for the invariant itself). -/
def Obligations.ResetHasTheInvariant : Prop := Inv State.reset

/-- R341, R42: after reset every register is unwritten, `M`, `PRIM`, `N`, `T`, `K` are invalid (`RDCR` raises
`NotConfigured`), the status registers are 0 and the constants at their values; `HostReset` leads to that state from every
state of the same build, and in every build leaves the constants what they are (R37; log entry 12). The default polynomials
after reset are those of R101 (log entry 13). The model's choices here: that invalid `EXP`, `LOG`, `GEN` hold nothing (log entry 8), that an engine that waits
takes a step to the same state (log entry 2), that what the host does next and the counter of free values outlive a reset
(log entry 11). -/
def Obligations.ResetState : Prop :=
  (∀ r : SReg, unwrittenS State.reset r) ∧ (∀ r : VReg, unwrittenV State.reset r) ∧
  State.reset.exp = [] ∧ State.reset.log = [] ∧ State.reset.gen = [] ∧
  (∀ sd : SReg, ∀ cr ∈ [5#16, 6, 7, 8, 9], exec (.rdcr sd cr) State.reset = .next (raise .notConfigured State.reset)) ∧
  State.reset.state = 0 ∧ State.reset.err = 0 ∧ State.reset.errsticky = 0 ∧ State.reset.dreason = 0 ∧
  State.reset.ident = 0x4E524301 ∧ State.reset.feat = 7 ∧ State.reset.vlmax = 512 ∧ State.reset.rsp = 31 ∧
  State.reset.defaultPrims = #v[7, 11, 19, 37, 67, 137, 285] ∧
  step State.reset = .next State.reset ∧
  (∀ (s : State) (rest : List HostOp), s.port = .reset :: rest →
    step s = .next { State.reset with
      ident := s.ident, feat := s.feat, vlmax := s.vlmax, rsp := s.rsp, defaultPrims := s.defaultPrims,
      port := rest, freeIdx := s.freeIdx } ∧
    (s.ident = State.reset.ident → s.feat = State.reset.feat → s.vlmax = State.reset.vlmax → s.rsp = State.reset.rsp →
      s.defaultPrims = State.reset.defaultPrims →
      step s = .next { State.reset with port := rest, freeIdx := s.freeIdx }))

/-! ### The host port -/

/-- R45: `HostWriteS` writes any value; `HostWriteV` writes a sequence that fits with entries 0..255, and is otherwise
not performed. Neither changes anything else of the engine. The queue, the reply register and the silence about a write
that is not performed are the model's (log entries 1, 3 and 19). -/
def Obligations.HostWritesRegisters : Prop :=
  ∀ (s : State) (rest : List HostOp),
    (∀ i x, s.port = .writeS i x :: rest →
      step s = .next { s with port := rest, scalars := s.scalars.set i ⟨true, x⟩, reply := .nothing }) ∧
    (∀ (i : VReg) (seq : List Int), s.port = .writeV i seq :: rest →
      (seq.length ≤ s.vlmax.toNat ∧ (∀ x ∈ seq, 0 ≤ x ∧ x ≤ 255) →
        step s = .next { s with
          port := rest, vectors := s.vectors.set i ⟨true, seq.map (BitVec.ofInt 8)⟩, reply := .nothing }) ∧
      (¬ (seq.length ≤ s.vlmax.toNat ∧ (∀ x ∈ seq, 0 ≤ x ∧ x ≤ 255)) →
        step s = .next { s with port := rest, reply := .nothing }))

/-- R45, R263: `HostReadS` and `HostReadV` return the valid bit and, when it is 1, the contents; when it is 0, some value,
of which only the bound on the length is known. `HostReadCR(c)` returns the value `RDCR` would write, or "no value" when
`RDCR` would raise an error. They change nothing of the engine. The queue, the reply register and the counter of free
values are the model's (log entries 1, 3 and 4). -/
def Obligations.HostReadsRegisters : Prop :=
  ∀ (s : State) (rest : List HostOp),
    (∀ i x, s.port = .readS i :: rest → holdsS s i x →
      step s = .next { s with port := rest, reply := .scalar true x }) ∧
    (∀ i, s.port = .readS i :: rest → unwrittenS s i →
      ∃ x, step s = .next { s with port := rest, reply := .scalar false x, freeIdx := s.freeIdx + 1 }) ∧
    (∀ i xs, s.port = .readV i :: rest → holdsV s i xs →
      step s = .next { s with port := rest, reply := .vector true xs.length xs }) ∧
    (∀ i, s.port = .readV i :: rest → unwrittenV s i →
      ∃ xs : List Byte, xs.length ≤ s.vlmax.toNat ∧
        step s = .next { s with port := rest, reply := .vector false xs.length xs, freeIdx := s.freeIdx + 1 }) ∧
    (∀ (c : BitVec 16) (sd : SReg) (t : State), s.port = .readCR c.toNat :: rest → exec (.rdcr sd c) s = .next t →
      step s = .next { s with
        port := rest, reply := .control (if t.err = 0 then some t.scalars[sd].data else none) })

/-! ### System and data movement commands -/

/-- R260, R264, R261, R262: `NOP` only clears `ERR`; `CLRERR` clears `ERR` and `ERRSTICKY`; `SLI` writes its
sign-extended immediate, `SMOV` a copy of its source. -/
def Obligations.SystemCommandsComplete : Prop :=
  (∀ s : State, exec .nop s = .next { s with err := 0 }) ∧
  (∀ s : State, exec .clrerr s = .next { s with err := 0, errsticky := 0 }) ∧
  (∀ (sd : SReg) (imm : BitVec 16) (s : State), exec (.sli sd imm) s = .next (wroteS s sd (imm.signExtend 32))) ∧
  (∀ (sd sa : SReg) (s : State) (x : Word), holdsS s sa x → exec (.smov sd sa) s = .next (wroteS s sd x))

/-- R263, R29, R30: what `RDCR` writes for each register, read before its own update of `ERR`; the parameter registers
raise `NotConfigured` below the `STATE` that makes them valid, and a number above 12 raises `IndexOutOfRange` in every
`STATE`. -/
def Obligations.RdcrReadsControlRegisters : Prop :=
  ∀ (sd : SReg) (s : State),
    exec (.rdcr sd 0) s = .next (wroteS s sd s.ident) ∧
    exec (.rdcr sd 1) s = .next (wroteS s sd (s.state.setWidth 32)) ∧
    exec (.rdcr sd 2) s = .next (wroteS s sd (s.err.setWidth 32)) ∧
    exec (.rdcr sd 3) s = .next (wroteS s sd s.errsticky) ∧
    exec (.rdcr sd 4) s = .next (wroteS s sd (s.dreason.setWidth 32)) ∧
    (1 ≤ s.state.toNat →
      exec (.rdcr sd 5) s = .next (wroteS s sd (s.m.setWidth 32)) ∧
      exec (.rdcr sd 6) s = .next (wroteS s sd (s.prim.setWidth 32)) ∧
      exec (.rdcr sd 7) s = .next (wroteS s sd (s.n.setWidth 32))) ∧
    (2 ≤ s.state.toNat →
      exec (.rdcr sd 8) s = .next (wroteS s sd (s.t.setWidth 32)) ∧
      exec (.rdcr sd 9) s = .next (wroteS s sd (s.k.setWidth 32))) ∧
    exec (.rdcr sd 10) s = .next (wroteS s sd (s.feat.setWidth 32)) ∧
    exec (.rdcr sd 11) s = .next (wroteS s sd (s.vlmax.setWidth 32)) ∧
    exec (.rdcr sd 12) s = .next (wroteS s sd (s.rsp.setWidth 32)) ∧
    (∀ cr ∈ [5#16, 6, 7], s.state = 0 → exec (.rdcr sd cr) s = .next (raise .notConfigured s)) ∧
    (∀ cr ∈ [8#16, 9], s.state.toNat < 2 → exec (.rdcr sd cr) s = .next (raise .notConfigured s)) ∧
    (∀ cr : BitVec 16, 12 < cr.toNat → exec (.rdcr sd cr) s = .next (raise .indexOutOfRange s))

/-- R265: `VZERO` writes L zeros for 0 <= L <= VLMAX, and raises `IndexOutOfRange` below and `LengthOverflow` above. -/
def Obligations.VzeroWritesZeros : Prop :=
  ∀ (vd : VReg) (sa : SReg) (s : State) (x : Word), holdsS s sa x →
    (0 ≤ x.toInt → x.toInt ≤ s.vlmax.toNat →
      exec (.vzero vd sa) s = .next (wroteV s vd (List.replicate x.toNat 0#8))) ∧
    (x.toInt < 0 → exec (.vzero vd sa) s = .next (raise .indexOutOfRange s)) ∧
    ((s.vlmax.toNat : Int) < x.toInt → exec (.vzero vd sa) s = .next (raise .lengthOverflow s))

/-- R266: `VSET` replaces one entry; an index that does not exist, then a value outside 0..255, is an error. -/
def Obligations.VsetReplacesOneEntry : Prop :=
  ∀ (vd : VReg) (sa sb : SReg) (s : State) (i x : Word) (old : List Byte),
    holdsS s sa i → holdsS s sb x → holdsV s vd old →
    (0 ≤ i.toInt → i.toInt < old.length → 0 ≤ x.toInt → x.toInt ≤ 255 →
      exec (.vset vd sa sb) s = .next (wroteV s vd (old.set i.toNat (x.setWidth 8)))) ∧
    (¬ (0 ≤ i.toInt ∧ i.toInt < old.length) → exec (.vset vd sa sb) s = .next (raise .indexOutOfRange s)) ∧
    (0 ≤ i.toInt ∧ i.toInt < old.length → ¬ (0 ≤ x.toInt ∧ x.toInt ≤ 255) →
      exec (.vset vd sa sb) s = .next (raise .elementOutOfRange s))

/-- R267, R268, R269: `VGET` writes entry i zero-extended, an index at or above the length, or a negative one, being an
error; `VLEN` writes the number of stored entries; `VMOV` writes the same entries. -/
def Obligations.VgetVlenAndVmovReadVectors : Prop :=
  ∀ (va : VReg) (s : State) (xs : List Byte), holdsV s va xs →
    (∀ (sd sb : SReg) (i : Word), holdsS s sb i →
      (∀ h : i.toNat < xs.length, 0 ≤ i.toInt →
        exec (.vget sd va sb) s = .next (wroteS s sd (xs[i.toNat].setWidth 32))) ∧
      (¬ (0 ≤ i.toInt ∧ i.toInt < xs.length) → exec (.vget sd va sb) s = .next (raise .indexOutOfRange s))) ∧
    (∀ sd : SReg, exec (.vlen sd va) s = .next (wroteS s sd (BitVec.ofNat 32 xs.length))) ∧
    (∀ vd : VReg, exec (.vmov vd va) s = .next (wroteV s vd xs))

/-! ### The field -/

/-- R103, R101, R102: `GFINIT` with m in 2..8 and a polynomial from which a field can be built, or 0 for the build's
default of m, whatever table of defaults the build has, ends the old instance and installs the new one. That the invalid
`T`, `K` hold 0 and `GEN` nothing is the model's choice (log entries 7 and 8). -/
def Obligations.GfinitBuildsTheField : Prop :=
  ∀ (sa sb : SReg) (s : State) (x y : Word) (m prim : Nat), holdsS s sa x → holdsS s sb y → x.toInt = m →
    (y.toInt = prim ∧ prim ≠ 0 ∨ y = 0 ∧ s.defaultPrims.toList[m - 2]? = some prim) → accepted m prim →
    exec (.gfinit sa sb) s = .next { s with
      exp := (gfBuild m prim).1, log := (gfBuild m prim).2, gen := [], m := BitVec.ofNat 4 m,
      prim := BitVec.ofNat 9 prim, n := BitVec.ofNat 8 (2 ^ m - 1), t := 0, k := 0, state := 1, dreason := 0, err := 0 }

/-- R102, R103, R306: `GFINIT` with m outside 2..8, or with a polynomial that is not primitive of degree m, given or the
build's default, raises its error and leaves the engine unconfigured. That the invalid registers hold 0 and the tables
nothing is the model's choice (log entries 7 and 8). -/
def Obligations.GfinitRefusesBadParameters : Prop :=
  ∀ (sa sb : SReg) (s : State) (x y : Word), holdsS s sa x → holdsS s sb y →
    (2 ≤ x.toInt ∧ x.toInt ≤ 8 → y = 0 → ∀ prim, s.defaultPrims.toList[x.toNat - 2]? = some prim →
      ¬ accepted x.toNat prim →
      exec (.gfinit sa sb) s = .next (raise .invalidParameters { s with
        exp := [], log := [], gen := [], m := 0, prim := 0, n := 0, t := 0, k := 0, state := 0, dreason := 0 })) ∧
    (¬ (2 ≤ x.toInt ∧ x.toInt ≤ 8) →
      exec (.gfinit sa sb) s = .next (raise .unsupportedFieldDegree { s with
        exp := [], log := [], gen := [], m := 0, prim := 0, n := 0, t := 0, k := 0, state := 0, dreason := 0 })) ∧
    (2 ≤ x.toInt ∧ x.toInt ≤ 8 → y ≠ 0 → (y.toInt < 0 ∨ ¬ accepted x.toNat y.toNat) →
      exec (.gfinit sa sb) s = .next (raise .invalidParameters { s with
        exp := [], log := [], gen := [], m := 0, prim := 0, n := 0, t := 0, k := 0, state := 0, dreason := 0 }))

/-- R33, R34: after a successful `GFINIT`, `EXP[i]` is α^i for i in 0..n-1, none of them 0, `LOG[0]` is -1,
and the two tables are inverse to each other. That entry n, which nothing writes, is not there is the model's choice (log
entry 8). -/
def Obligations.TablesAreInverse : Prop :=
  ∀ (sa sb : SReg) (s t : State), exec (.gfinit sa sb) s = .next t → t.err = 0 →
    Memory.read t.log 0 = some (BitVec.ofInt 9 (-1)) ∧ Memory.read t.log 1 = some 0 ∧
    Memory.read t.exp t.n.toNat = none ∧
    (∀ i < t.n.toNat, ∃ (e : Byte) (l : BitVec 9),
      Memory.read t.exp i = some e ∧ e.toNat = (mulAlpha t.m.toNat t.prim.toNat)^[i] 1 ∧ e ≠ 0 ∧
      Memory.read t.log e.toNat = some l ∧ l.toInt = i) ∧
    (∀ a < 2 ^ t.m.toNat, 1 ≤ a → ∃ (l : BitVec 9) (e : Byte),
      Memory.read t.log a = some l ∧ 0 ≤ l.toInt ∧ l.toInt < t.n.toNat ∧
      Memory.read t.exp l.toInt.toNat = some e ∧ e.toNat = a)

/-- R100-R111: the laws that R115 derives from them, of the field after any successful `GFINIT`, which has no effect beyond the instance it builds and the
status. -/
def Obligations.FieldLawsAfterGfinit : Prop :=
  ∀ (sa sb : SReg) (s t : State), exec (.gfinit sa sb) s = .next t → t.err = 0 →
    t = { s with
      exp := t.exp, log := t.log, gen := t.gen, m := t.m, prim := t.prim, n := t.n, t := t.t, k := t.k,
      state := t.state, dreason := t.dreason, err := t.err } ∧
    ∀ a b c : Nat, a < 2 ^ t.m.toNat → b < 2 ^ t.m.toNat → c < 2 ^ t.m.toNat →
      gfMul t.field a b = gfMul t.field b a ∧
      (a ≠ 0 → gfMul t.field a (gfInv t.field a) = 1) ∧
      gfMul t.field (gfMul t.field a b) c = gfMul t.field a (gfMul t.field b c) ∧
      gfMul t.field a (gfAdd b c) = gfAdd (gfMul t.field a b) (gfMul t.field a c) ∧
      (a ≠ 0 → ∀ e f : Int, gfPow t.field a (e + f) = gfMul t.field (gfPow t.field a e) (gfPow t.field a f)) ∧
      (a ≠ 0 → gfPow t.field a t.n.toNat = 1) ∧
      (gfMul t.field a b = 0 → a = 0 ∨ b = 0)

/-- R105-R108: `GFADD` writes the XOR of two field elements; `GFMUL` writes 0 if one is 0 and otherwise
`EXP[(LOG[a] + LOG[b]) mod n]`; an operand outside the field raises `ElementOutOfRange`. -/
def Obligations.GfaddAndGfmulCompute : Prop :=
  ∀ (sd sa sb : SReg) (s : State) (x y : Word), holdsS s sa x → holdsS s sb y → 1 ≤ s.state.toNat →
    (isElem s x ∧ isElem s y →
      exec (.gfadd sd sa sb) s = .next (wroteS s sd (x ^^^ y)) ∧
      (x = 0 ∨ y = 0 → exec (.gfmul sd sa sb) s = .next (wroteS s sd 0)) ∧
      (x ≠ 0 → y ≠ 0 → ∀ (la lb : BitVec 9) (e : Byte), Memory.read s.log x.toNat = some la →
        Memory.read s.log y.toNat = some lb →
        Memory.read s.exp ((la.toInt + lb.toInt) % s.n.toNat).toNat = some e →
        exec (.gfmul sd sa sb) s = .next (wroteS s sd (e.setWidth 32)))) ∧
    (¬ (isElem s x ∧ isElem s y) →
      exec (.gfadd sd sa sb) s = .next (raise .elementOutOfRange s) ∧
      exec (.gfmul sd sa sb) s = .next (raise .elementOutOfRange s))

/-- R109-R112: `GFPOW` with base 0 writes 1 for exponent 0 and 0 for every other exponent, with another base
`EXP[(LOG[base] * e) mod n]` over the integers; only the base has a range. `GFINV` writes `EXP[(n - LOG[a]) mod n]`, and of
0 raises `ZeroInverse`. -/
def Obligations.GfpowAndGfinvCompute : Prop :=
  ∀ (sd sa : SReg) (s : State) (x : Word), holdsS s sa x → 1 ≤ s.state.toNat →
    (∀ (sb : SReg) (e : Word), holdsS s sb e →
      (x = 0 → exec (.gfpow sd sa sb) s = .next (wroteS s sd (if e = 0 then 1 else 0))) ∧
      (isElem s x → x ≠ 0 → ∀ (l : BitVec 9) (v : Byte), Memory.read s.log x.toNat = some l →
        Memory.read s.exp ((l.toInt * e.toInt) % s.n.toNat).toNat = some v →
        exec (.gfpow sd sa sb) s = .next (wroteS s sd (v.setWidth 32))) ∧
      (¬ isElem s x → exec (.gfpow sd sa sb) s = .next (raise .elementOutOfRange s))) ∧
    (isElem s x → x ≠ 0 → ∀ (l : BitVec 9) (v : Byte), Memory.read s.log x.toNat = some l →
      Memory.read s.exp (((s.n.toNat : Int) - l.toInt) % s.n.toNat).toNat = some v →
      exec (.gfinv sd sa) s = .next (wroteS s sd (v.setWidth 32))) ∧
    (x = 0 → exec (.gfinv sd sa) s = .next (raise .zeroInverse s)) ∧
    (¬ isElem s x → exec (.gfinv sd sa) s = .next (raise .elementOutOfRange s))

/-- R113, R114: `LDEXP` writes `EXP[i]` zero-extended for 0 <= i < n, `LDLOG` writes `LOG[a]` sign-extended for
0 <= a <= 2^M - 1; any other index raises `IndexOutOfRange`. -/
def Obligations.LdexpAndLdlogReadTables : Prop :=
  ∀ (sd sa : SReg) (s : State) (x : Word), holdsS s sa x → 1 ≤ s.state.toNat →
    (0 ≤ x.toInt → x.toInt < s.n.toNat → ∀ e, Memory.read s.exp x.toNat = some e →
      exec (.ldexp sd sa) s = .next (wroteS s sd (e.setWidth 32))) ∧
    (¬ (0 ≤ x.toInt ∧ x.toInt < s.n.toNat) → exec (.ldexp sd sa) s = .next (raise .indexOutOfRange s)) ∧
    (isElem s x → ∀ l, Memory.read s.log x.toNat = some l →
      exec (.ldlog sd sa) s = .next (wroteS s sd (l.signExtend 32))) ∧
    (¬ isElem s x → exec (.ldlog sd sa) s = .next (raise .indexOutOfRange s))

/-! ### Polynomials -/

/-- R131, R132: `PDEG` writes the highest index with a nonzero entry, or -1, in any `STATE` and for any entries. -/
def Obligations.PdegFindsTheDegree : Prop :=
  ∀ (sd : SReg) (va : VReg) (s : State) (xs : List Byte), holdsV s va xs →
    ((∀ x ∈ xs, x = 0) → exec (.pdeg sd va) s = .next (wroteS s sd (BitVec.ofInt 32 (-1)))) ∧
    (∀ (i : Nat) (h : i < xs.length), xs[i] ≠ 0 → (∀ (j : Nat) (h : j < xs.length), i < j → xs[j] = 0) →
      exec (.pdeg sd va) s = .next (wroteS s sd (BitVec.ofNat 32 i)))

/-- R133, R134: `PMUL` writes the full convolution, of length len(a) + len(b) - 1, empty when an operand is empty. -/
def Obligations.PmulWritesTheConvolution : Prop :=
  ∀ (vd va vb : VReg) (s : State) (xs ys : List Byte), holdsV s va xs → holdsV s vb ys → 1 ≤ s.state.toNat →
    (¬ (allElems s xs ∧ allElems s ys) → exec (.pmul vd va vb) s = .next (raise .elementOutOfRange s)) ∧
    (allElems s xs ∧ allElems s ys → ∀ len : Nat, len = (if xs = [] ∨ ys = [] then 0 else xs.length + ys.length - 1) →
      (s.vlmax.toNat < len → exec (.pmul vd va vb) s = .next (raise .lengthOverflow s)) ∧
      (len ≤ s.vlmax.toNat → ∃ r : List Nat, r.length = len ∧
        (∀ k < len, r.getD k 0 =
          gfSum ((List.range (k + 1)).map fun i => gfMul s.field ((elems xs).getD i 0) ((elems ys).getD (k - i) 0))) ∧
        exec (.pmul vd va vb) s = .next (wroteV s vd (toBytes r))))

/-- R136, R135: `PDIV` writes a quotient of max(da - db + 1, 0) entries and a remainder of exactly db entries, and raises
`DivisionByZeroPolynomial` for a zero divisor. -/
def Obligations.PdivWritesQuotientAndRemainder : Prop :=
  ∀ (vq vr va vb : VReg) (s : State) (xs ys : List Byte), holdsV s va xs → holdsV s vb ys → 1 ≤ s.state.toNat → vq ≠ vr →
    xs.length ≤ s.vlmax.toNat → ys.length ≤ s.vlmax.toNat →
    (¬ (allElems s xs ∧ allElems s ys) → exec (.pdiv vq vr va vb) s = .next (raise .elementOutOfRange s)) ∧
    (allElems s xs ∧ allElems s ys → (∀ y ∈ ys, y = 0) →
      exec (.pdiv vq vr va vb) s = .next (raise .divisionByZeroPolynomial s)) ∧
    (allElems s xs ∧ allElems s ys → (∃ y ∈ ys, y ≠ 0) → ∃ q r : List Nat,
      polyDiv s.field (elems xs) (elems ys) = .ok (q, r) ∧
      q.length = (polyDeg (elems xs) - polyDeg (elems ys) + 1).toNat ∧ (r.length : Int) = polyDeg (elems ys) ∧
      exec (.pdiv vq vr va vb) s = .next { s with
        vectors := (s.vectors.set vq ⟨true, toBytes q⟩).set vr ⟨true, toBytes r⟩, err := 0 })

/-- R135: the quotient and the remainder of a division in a configured field satisfy a ~ q b + r and deg r < deg b. -/
def Obligations.DivisionIdentity : Prop :=
  ∀ (s : State) (a b q r : List Nat), Inv s → 1 ≤ s.state.toNat → inField s a → inField s b →
    polyDiv s.field a b = .ok (q, r) →
    polyEq a (polyAdd (polyMul s.field q b) r) ∧ polyDeg r < polyDeg b ∧ inField s q ∧ inField s r

/-- R138, R137: `PGCD` writes `polyGcd(a, b)`, which is `a` itself when `b` is zero and `b` itself when `a` is zero and
`b` is not. -/
def Obligations.PgcdWritesTheGcd : Prop :=
  ∀ (vd va vb : VReg) (s : State) (xs ys : List Byte), holdsV s va xs → holdsV s vb ys → 1 ≤ s.state.toNat →
    xs.length ≤ s.vlmax.toNat → ys.length ≤ s.vlmax.toNat →
    (¬ (allElems s xs ∧ allElems s ys) → exec (.pgcd vd va vb) s = .next (raise .elementOutOfRange s)) ∧
    (allElems s xs ∧ allElems s ys →
      exec (.pgcd vd va vb) s = .next (wroteV s vd (toBytes (polyGcd s.field (elems xs) (elems ys)))) ∧
      ((∀ y ∈ ys, y = 0) → exec (.pgcd vd va vb) s = .next (wroteV s vd xs)) ∧
      ((∀ x ∈ xs, x = 0) → (∃ y ∈ ys, y ≠ 0) → exec (.pgcd vd va vb) s = .next (wroteV s vd ys)))

/-- R137: in a configured field the gcd of two polynomials that are not both zero is not zero and divides both, and every
polynomial that divides both divides it. -/
def Obligations.GcdIsAGreatestCommonDivisor : Prop :=
  ∀ (s : State) (a b : List Nat), Inv s → 1 ≤ s.state.toNat → inField s a → inField s b →
    (0 ≤ polyDeg a ∨ 0 ≤ polyDeg b) →
    0 ≤ polyDeg (polyGcd s.field a b) ∧ inField s (polyGcd s.field a b) ∧
    (∃ u, inField s u ∧ polyEq a (polyMul s.field u (polyGcd s.field a b))) ∧
    (∃ v, inField s v ∧ polyEq b (polyMul s.field v (polyGcd s.field a b))) ∧
    (∀ c, inField s c → (∃ u, inField s u ∧ polyEq a (polyMul s.field u c)) →
      (∃ v, inField s v ∧ polyEq b (polyMul s.field v c)) →
      ∃ w, inField s w ∧ polyEq (polyGcd s.field a b) (polyMul s.field w c))

/-- R140, R139: `PLCM` writes the quotient of the product by the gcd; a product longer than a register raises
`LengthOverflow`, and two zero polynomials raise `DivisionByZeroPolynomial`. -/
def Obligations.PlcmWritesTheLcm : Prop :=
  ∀ (vd va vb : VReg) (s : State) (xs ys : List Byte), holdsV s va xs → holdsV s vb ys → 1 ≤ s.state.toNat →
    (¬ (allElems s xs ∧ allElems s ys) → exec (.plcm vd va vb) s = .next (raise .elementOutOfRange s)) ∧
    (allElems s xs ∧ allElems s ys → ∀ p : List Nat, p = polyMul s.field (elems xs) (elems ys) →
      (s.vlmax.toNat < p.length → exec (.plcm vd va vb) s = .next (raise .lengthOverflow s)) ∧
      (p.length ≤ s.vlmax.toNat → (∀ x ∈ xs, x = 0) → (∀ y ∈ ys, y = 0) →
        exec (.plcm vd va vb) s = .next (raise .divisionByZeroPolynomial s)) ∧
      (p.length ≤ s.vlmax.toNat → ((∃ x ∈ xs, x ≠ 0) ∨ (∃ y ∈ ys, y ≠ 0)) → ∃ q r : List Nat,
        polyDiv s.field p (polyGcd s.field (elems xs) (elems ys)) = .ok (q, r) ∧
        exec (.plcm vd va vb) s = .next (wroteV s vd (toBytes q))))

/-! ### Cosets and generators -/

/-- R151: the cosets are the orbits, in order of generation, of leaders in ascending order, each leader the smallest of
its orbit; they are disjoint, contain all of 1..2t, and none has more than m members. -/
def Obligations.CosetsAreTheOrbits : Prop :=
  ∀ m n t : Nat, 2 ≤ m → m ≤ 8 → n = 2 ^ m - 1 → 2 * t < n →
    (cosets n t).flatten.Nodup ∧ (∀ i, 1 ≤ i → i ≤ 2 * t → i ∈ (cosets n t).flatten) ∧
    ((cosets n t).map fun c => c.headD 0).Pairwise (· < ·) ∧
    (∀ c ∈ cosets n t, ∃ lead, 1 ≤ lead ∧ lead ≤ 2 * t ∧ c = (List.range c.length).map (fun e => lead * 2 ^ e % n) ∧
      1 ≤ c.length ∧ c.length ≤ m ∧ (∀ e, lead * 2 ^ e % n ∈ c) ∧ (∀ j ∈ c, lead ≤ j ∧ j < n))

/-- R152: `COSETS` writes all members, coset after coset, and the size of each coset; it reads `N` and its operand. -/
def Obligations.CosetsWritesMembersAndSizes : Prop :=
  ∀ (vd ve : VReg) (sa : SReg) (s : State) (x : Word), Inv s → holdsS s sa x → 1 ≤ s.state.toNat → vd ≠ ve →
    (legalT s x → exec (.cosets vd ve sa) s = .next { s with
      vectors := (s.vectors.set vd ⟨true, toBytes (cosets s.n.toNat x.toNat).flatten⟩).set ve
        ⟨true, toBytes ((cosets s.n.toNat x.toNat).map List.length)⟩, err := 0 }) ∧
    (¬ legalT s x → exec (.cosets vd ve sa) s = .next (raise .invalidParameters s))

/-- R153, R154: `MINPOLY` writes the product of the factors x + α^i, one entry longer than the list. An exponent of n or
more raises `IndexOutOfRange`. That a result longer than `VLMAX` raises `LengthOverflow` is read from R13 (log entry
10). -/
def Obligations.MinpolyWritesTheProduct : Prop :=
  ∀ (vd va : VReg) (s : State) (xs : List Byte), holdsV s va xs → 1 ≤ s.state.toNat →
    ((∀ i ∈ xs, i.toNat < s.n.toNat) → xs.length + 1 ≤ s.vlmax.toNat → ∃ p : List Nat, p.length = xs.length + 1 ∧
      p = xs.foldl (fun p i => polyMul s.field p [alphaPow s.field i.toNat, 1]) [1] ∧
      exec (.minpoly vd va) s = .next (wroteV s vd (toBytes p))) ∧
    (¬ (∀ i ∈ xs, i.toNat < s.n.toNat) → exec (.minpoly vd va) s = .next (raise .indexOutOfRange s)) ∧
    ((∀ i ∈ xs, i.toNat < s.n.toNat) → s.vlmax.toNat < xs.length + 1 →
      exec (.minpoly vd va) s = .next (raise .lengthOverflow s))

/-- R153, R11: in a configured field every α^i of the list is a root of its minimal polynomial. -/
def Obligations.MinpolyVanishesOnItsRoots : Prop :=
  ∀ (s : State) (c : List Nat), Inv s → 1 ≤ s.state.toNat → (∀ i ∈ c, i < s.n.toNat) →
    ∀ i ∈ c, polyEval s.field (minPoly s.field c) (alphaPow s.field i) = 0

/-- R156, R157: `GENPOLY` with a legal t always finds a generator, of length deg + 1 and of degree below n, writes it and
installs nothing; another t raises `InvalidParameters`. -/
def Obligations.GenpolyWritesAGenerator : Prop :=
  ∀ (vd : VReg) (sa : SReg) (s : State) (x : Word), Inv s → holdsS s sa x → 1 ≤ s.state.toNat →
    (legalT s x → ∃ g : List Nat, genPoly s.field 512 x.toNat = .ok g ∧ (g.length : Int) = polyDeg g + 1 ∧
      1 ≤ polyDeg g ∧ polyDeg g < s.n.toNat ∧ exec (.genpoly vd sa) s = .next (wroteV s vd (toBytes g))) ∧
    (¬ legalT s x → exec (.genpoly vd sa) s = .next (raise .invalidParameters s))

/-- R158, R35: `BCHINIT` with a legal t installs the generator, T and K, and the generator has degree n - k with
1 <= k < n; a t that is not legal ends the old codec and raises `InvalidParameters`. That the registers that become
invalid hold 0 (log entry 7) and the generator memory then lists nothing (log entry 8) is the model's choice. -/
def Obligations.BchinitInstallsTheCodec : Prop :=
  ∀ (sa : SReg) (s : State) (x : Word), Inv s → holdsS s sa x → 1 ≤ s.state.toNat →
    (legalT s x → ∃ (g : List Nat) (t : State), genPoly s.field 512 x.toNat = .ok g ∧
      t = { s with gen := Memory.ofSeq g, t := x.setWidth 7, k := BitVec.ofInt 8 (s.n.toNat - polyDeg g), state := 2,
                   dreason := 0, err := 0 } ∧
      exec (.bchinit sa) s = .next t ∧ genShape t) ∧
    (¬ legalT s x → exec (.bchinit sa) s = .next (raise .invalidParameters
      { s with gen := [], t := 0, k := 0, state := 1, dreason := 0 }))

/-- R159, R35, R53: in a configured codec `LDGEN` writes exactly the generator polynomial that the codec's t gives, which
is what `GEN` holds; its degree is n - k, with 1 <= k < n. -/
def Obligations.LdgenWritesTheGenerator : Prop :=
  ∀ (vd : VReg) (s : State), Inv s → s.state = 2 → genShape s ∧ ∃ g : List Nat,
    genPoly s.field 512 s.t.toNat = .ok g ∧ genSeq s = g ∧ exec (.ldgen vd) s = .next (wroteV s vd (toBytes g))

/-! ### The encoder and the decoders -/

/-- R170-R172: `ENC` writes the remainder of the shifted message, n - k parity entries, and above it the message
unchanged; the length is checked before the bits. -/
def Obligations.EncWritesParityThenMessage : Prop :=
  ∀ (vd va : VReg) (s : State) (xs : List Byte), Inv s → genShape s → holdsV s va xs → s.state = 2 →
    (xs.length ≠ s.k.toNat → exec (.enc vd va) s = .next (raise .wrongMessageLength s)) ∧
    (xs.length = s.k.toNat → ¬ allBits xs → exec (.enc vd va) s = .next (raise .elementOutOfRange s)) ∧
    (xs.length = s.k.toNat → allBits xs → ∃ rem : List Nat,
      rem = remainderOf s (List.replicate (s.n.toNat - s.k.toNat) 0 ++ elems xs) ∧
      rem.length = s.n.toNat - s.k.toNat ∧ exec (.enc vd va) s = .next (wroteV s vd (toBytes rem ++ xs)))

/-- R173, R193, R212, R216, R218: every codeword has all 2t syndromes zero and zero remainder modulo `GEN`; decoding it gives back the message
with errorCount 0, by each of the three strategies; and the encoder is linear over GF(2). -/
def Obligations.EncodeThenDecodeRoundTrip : Prop :=
  ∀ (s : State) (msg msg' : List Nat), Inv s → genShape s → s.state = 2 →
    msg.length = s.k.toNat → (∀ b ∈ msg, b ≤ 1) → msg'.length = s.k.toNat → (∀ b ∈ msg', b ≤ 1) →
    ∃ cw cw' : List Nat, bchEncode s.codec msg = .ok cw ∧ bchEncode s.codec msg' = .ok cw' ∧
      (∀ x ∈ syndromes s.field s.t.toNat cw, x = 0) ∧ (∀ x ∈ remainderOf s cw, x = 0) ∧
      bchDecode s.codec cw = ⟨msg, cw, 0, 1⟩ ∧ bchDecodeBM s.codec cw = ⟨msg, cw, 0, 1⟩ ∧
      bchDecodeMG s.codec cw = .ok ⟨msg, cw, 0, 1⟩ ∧
      bchEncode s.codec (polyAdd msg msg') = .ok (polyAdd cw cw')

/-- R182, R183: `SYND` writes 2t entries, entry p the XOR of `EXP[((p+1) * j) mod n]` over the positions j of the ones;
the length is checked before the bits. -/
def Obligations.SyndWritesTheSyndromes : Prop :=
  ∀ (vd va : VReg) (s : State) (xs : List Byte), Inv s → holdsV s va xs → s.state = 2 →
    (xs.length ≠ s.n.toNat → exec (.synd vd va) s = .next (raise .wrongCodewordLength s)) ∧
    (xs.length = s.n.toNat → ¬ allBits xs → exec (.synd vd va) s = .next (raise .elementOutOfRange s)) ∧
    (xs.length = s.n.toNat → allBits xs → exec (.synd vd va) s = .next (wroteV s vd (toBytes
      ((List.range (2 * s.t.toNat)).map fun p =>
        gfSum (((List.range s.n.toNat).filter fun j => xs.getD j 0 = 1).map fun j =>
          (expEntry s.exp ((p + 1) * j % s.n.toNat)).toNat)))))

/-- R187-R189: `PETERSON` writes v and Λ: (0, [1]) for a zero syndrome vector, the largest v in 1..t whose system is
nonsingular with Cramer's solution in reverse order above the constant 1, and (-1, [1]) when there is none. -/
def Obligations.PetersonSolvesTheLargestSystem : Prop :=
  ∀ (vd : VReg) (sd : SReg) (va : VReg) (s : State) (xs : List Byte), Inv s → holdsV s va xs → s.state = 2 →
    (xs.length ≠ 2 * s.t.toNat → exec (.peterson vd sd va) s = .next (raise .wrongOperandLength s)) ∧
    (xs.length = 2 * s.t.toNat → ¬ allElems s xs → exec (.peterson vd sd va) s = .next (raise .elementOutOfRange s)) ∧
    (xs.length = 2 * s.t.toNat → allElems s xs → ∀ (v : Int) (locator : List Nat),
      ((∀ x ∈ xs, x = 0) ∧ v = 0 ∧ locator = [1] ∨
        (∃ x ∈ xs, x ≠ 0) ∧ (∃ u : Nat, v = u ∧ 1 ≤ u ∧ u ≤ s.t.toNat ∧
          gfDet s.field u (syndromeMatrix (elems xs) u) ≠ 0 ∧
          (∀ u' : Nat, u < u' → u' ≤ s.t.toNat → gfDet s.field u' (syndromeMatrix (elems xs) u') = 0) ∧
          locator = 1 :: (cramer s.field (elems xs) u).reverse) ∨
        (∃ x ∈ xs, x ≠ 0) ∧ v = -1 ∧ locator = [1] ∧
          (∀ u : Nat, 1 ≤ u → u ≤ s.t.toNat → gfDet s.field u (syndromeMatrix (elems xs) u) = 0)) →
      exec (.peterson vd sd va) s = .next { s with
        vectors := s.vectors.set vd ⟨true, toBytes locator⟩,
        scalars := s.scalars.set sd ⟨true, BitVec.ofInt 32 v⟩, err := 0 })

/-- R190, R191: `CHIEN` writes, ascending, exactly the positions i below n with Λ(α^(-i)) = 0, and their number. -/
def Obligations.ChienFindsTheRoots : Prop :=
  ∀ (vd : VReg) (sd : SReg) (va : VReg) (s : State) (xs : List Byte), Inv s → holdsV s va xs → s.state = 2 →
    (allElems s xs → ∃ pos : List Nat, pos.Pairwise (· < ·) ∧
      (∀ i, i ∈ pos ↔ i < s.n.toNat ∧ polyEval s.field (elems xs) (alphaPow s.field (-(i : Int))) = 0) ∧
      exec (.chien vd sd va) s = .next { s with
        vectors := s.vectors.set vd ⟨true, toBytes pos⟩,
        scalars := s.scalars.set sd ⟨true, BitVec.ofNat 32 pos.length⟩, err := 0 }) ∧
    (¬ allElems s xs → exec (.chien vd sd va) s = .next (raise .elementOutOfRange s))

/-- R192-R194: `DEC` runs the stages of strategy 1 and writes what each terminal state of R180 gives: the word itself and
0 when every syndrome is zero; the word itself and -1 when no system is nonsingular or the roots are not v; otherwise the
word with the bits at the roots flipped, and v. -/
def Obligations.DecReachesItsTerminalStates : Prop :=
  ∀ (vm vc : VReg) (sd : SReg) (va : VReg) (s : State) (xs : List Byte) (S : List Nat) (v : Int) (locator pos : List Nat),
    Inv s → holdsV s va xs → s.state = 2 → vm ≠ vc →
    S = syndromes s.field s.t.toNat (elems xs) → (v, locator) = petersonSolve s.field S s.t.toNat →
    pos = chien s.field locator →
    (xs.length ≠ s.n.toNat → exec (.dec vm vc sd va) s = .next (raise .wrongCodewordLength s)) ∧
    (xs.length = s.n.toNat → ¬ allBits xs → exec (.dec vm vc sd va) s = .next (raise .elementOutOfRange s)) ∧
    (xs.length = s.n.toNat → allBits xs →
      ((∀ x ∈ S, x = 0) →
        exec (.dec vm vc sd va) s = .next (decodedTo s vm vc sd (messagePart s xs) xs 0 1)) ∧
      ((∃ x ∈ S, x ≠ 0) → v = -1 →
        exec (.dec vm vc sd va) s = .next (decodedTo s vm vc sd (messagePart s xs) xs (-1) 3)) ∧
      ((∃ x ∈ S, x ≠ 0) → v ≠ -1 → (pos.length : Int) ≠ v →
        exec (.dec vm vc sd va) s = .next (decodedTo s vm vc sd (messagePart s xs) xs (-1) 4)) ∧
      ((∃ x ∈ S, x ≠ 0) → v ≠ -1 → (pos.length : Int) = v → ∀ word : List Byte,
        word = xs.mapIdx (fun i x => if i ∈ pos then x ^^^ 1 else x) →
        exec (.dec vm vc sd va) s = .next (decodedTo s vm vc sd (messagePart s word) word v 2)))

/-- R212, R213: `DECBM` does the same with the Berlekamp-Massey locator C: it rejects when the degree of C is 0 or above
t, or is not the number of its roots. -/
def Obligations.DecbmReachesItsTerminalStates : Prop :=
  ∀ (vm vc : VReg) (sd : SReg) (va : VReg) (s : State) (xs : List Byte) (S C pos : List Nat),
    Inv s → holdsV s va xs → s.state = 2 → vm ≠ vc →
    S = syndromes s.field s.t.toNat (elems xs) → C = bmLocator s.field S → pos = chien s.field C →
    (xs.length ≠ s.n.toNat → exec (.decbm vm vc sd va) s = .next (raise .wrongCodewordLength s)) ∧
    (xs.length = s.n.toNat → ¬ allBits xs → exec (.decbm vm vc sd va) s = .next (raise .elementOutOfRange s)) ∧
    (xs.length = s.n.toNat → allBits xs →
      ((∀ x ∈ S, x = 0) →
        exec (.decbm vm vc sd va) s = .next (decodedTo s vm vc sd (messagePart s xs) xs 0 1)) ∧
      ((∃ x ∈ S, x ≠ 0) → (polyDeg C = 0 ∨ (s.t.toNat : Int) < polyDeg C) →
        exec (.decbm vm vc sd va) s = .next (decodedTo s vm vc sd (messagePart s xs) xs (-1) 3)) ∧
      ((∃ x ∈ S, x ≠ 0) → ¬ (polyDeg C = 0 ∨ (s.t.toNat : Int) < polyDeg C) → (pos.length : Int) ≠ polyDeg C →
        exec (.decbm vm vc sd va) s = .next (decodedTo s vm vc sd (messagePart s xs) xs (-1) 4)) ∧
      ((∃ x ∈ S, x ≠ 0) → ¬ (polyDeg C = 0 ∨ (s.t.toNat : Int) < polyDeg C) → (pos.length : Int) = polyDeg C →
        ∀ word : List Byte, word = xs.mapIdx (fun i x => if i ∈ pos then x ^^^ 1 else x) →
        exec (.decbm vm vc sd va) s = .next (decodedTo s vm vc sd (messagePart s word) word (polyDeg C) 2)))

/-- R214-R217: `DECMG` accepts a codeword unchanged; otherwise it takes the first number of right shifts, 0..n, at which
the remainder has weight at most t, adds the remainder to the parity positions and shifts back, with that weight as
errorCount; with none it rejects. -/
def Obligations.DecmgTakesTheFirstLightRemainder : Prop :=
  ∀ (vm vc : VReg) (sd : SReg) (va : VReg) (s : State) (xs : List Byte) (rem : Nat → List Nat),
    Inv s → genShape s → holdsV s va xs → s.state = 2 → vm ≠ vc →
    (∀ j, rem j = remainderOf s (rotR^[j] (elems xs))) →
    (xs.length ≠ s.n.toNat → exec (.decmg vm vc sd va) s = .next (raise .wrongCodewordLength s)) ∧
    (xs.length = s.n.toNat → ¬ allBits xs → exec (.decmg vm vc sd va) s = .next (raise .elementOutOfRange s)) ∧
    (xs.length = s.n.toNat → allBits xs →
      ((rem 0).count 1 = 0 →
        exec (.decmg vm vc sd va) s = .next (decodedTo s vm vc sd (messagePart s xs) xs 0 1)) ∧
      ((rem 0).count 1 ≠ 0 → (∀ j ≤ s.n.toNat, s.t.toNat < (rem j).count 1) →
        exec (.decmg vm vc sd va) s = .next (decodedTo s vm vc sd (messagePart s xs) xs (-1) 5)) ∧
      ((rem 0).count 1 ≠ 0 → ∀ j ≤ s.n.toNat, (∀ i < j, s.t.toNat < (rem i).count 1) → (rem j).count 1 ≤ s.t.toNat →
        ∀ word : List Byte,
          word = toBytes (rotL^[j] ((rotR^[j] (elems xs)).mapIdx fun i x => gfAdd x ((rem j).getD i 0))) →
          exec (.decmg vm vc sd va) s = .next (decodedTo s vm vc sd (messagePart s word) word ((rem j).count 1) 2)))

/-- R195, R218: in every configured BCH(7,4,1) each of the three strategies corrects every single error of every
codeword. -/
def Obligations.SevenFourCorrectsSingleErrors : Prop :=
  ∀ (s : State) (msg : List Nat) (p : Nat), Inv s → s.state = 2 → s.m = 3 → s.t = 1 →
    msg.length = 4 → (∀ b ∈ msg, b ≤ 1) → p < 7 →
    ∃ cw : List Nat, bchEncode s.codec msg = .ok cw ∧ bchDecode s.codec (flipBits cw [p]) = ⟨msg, cw, 1, 2⟩ ∧
      bchDecodeBM s.codec (flipBits cw [p]) = ⟨msg, cw, 1, 2⟩ ∧
      bchDecodeMG s.codec (flipBits cw [p]) = .ok ⟨msg, cw, 1, 2⟩

/-! ### The RS unit -/

/-- R234, R235: `RSINTERP` writes as many coefficients as points; unequal lengths, a coordinate of 31 or more and a
repeated x are errors, in this order. -/
def Obligations.RsinterpWritesCoefficients : Prop :=
  ∀ (vd vx vy : VReg) (s : State) (xs ys : List Byte), Inv s → holdsV s vx xs → holdsV s vy ys →
    (xs.length ≠ ys.length → exec (.rsinterp vd vx vy) s = .next (raise .wrongOperandLength s)) ∧
    (xs.length = ys.length →
      (¬ ((∀ x ∈ xs, x.toNat < 31) ∧ (∀ y ∈ ys, y.toNat < 31)) →
        exec (.rsinterp vd vx vy) s = .next (raise .elementOutOfRange s)) ∧
      ((∀ x ∈ xs, x.toNat < 31) ∧ (∀ y ∈ ys, y.toNat < 31) → ¬ xs.Nodup →
        exec (.rsinterp vd vx vy) s = .next (raise .duplicateX s)) ∧
      ((∀ x ∈ xs, x.toNat < 31) ∧ (∀ y ∈ ys, y.toNat < 31) → xs.Nodup → ∃ c : List Nat,
        c = rsInterp 31 (elems xs) (elems ys) ∧ c.length = xs.length ∧
        exec (.rsinterp vd vx vy) s = .next (wroteV s vd (toBytes c))))

/-- R234: interpolation gives the one polynomial of degree below the number of points that passes through all of them, with
exactly as many entries as points, each below 31. -/
def Obligations.InterpolationIsExactAndUnique : Prop :=
  ∀ xs ys : List Nat, xs.length = ys.length → (∀ x ∈ xs, x < 31) → (∀ y ∈ ys, y < 31) → xs.Nodup →
    (rsInterp 31 xs ys).length = xs.length ∧ (∀ c ∈ rsInterp 31 xs ys, c < 31) ∧
    rsVerify 31 xs ys (rsInterp 31 xs ys) = true ∧
    (∀ c : List Nat, c.length = xs.length → (∀ e ∈ c, e < 31) → rsVerify 31 xs ys c = true → c = rsInterp 31 xs ys)

/-- R236, R237, R232: `RSVERIFY` writes 1 when the polynomial takes the value y at x, modulo 31, for every point, and
otherwise 0. -/
def Obligations.RsverifyComparesEveryPoint : Prop :=
  ∀ (sd : SReg) (vx vy vc : VReg) (s : State) (xs ys c : List Byte), Inv s → holdsV s vx xs → holdsV s vy ys →
    holdsV s vc c →
    (xs.length ≠ ys.length → exec (.rsverify sd vx vy vc) s = .next (raise .wrongOperandLength s)) ∧
    (xs.length = ys.length →
      (¬ ((∀ x ∈ xs, x.toNat < 31) ∧ (∀ y ∈ ys, y.toNat < 31) ∧ (∀ e ∈ c, e.toNat < 31)) →
        exec (.rsverify sd vx vy vc) s = .next (raise .elementOutOfRange s)) ∧
      ((∀ x ∈ xs, x.toNat < 31) ∧ (∀ y ∈ ys, y.toNat < 31) ∧ (∀ e ∈ c, e.toNat < 31) → ∀ b : Word,
        (b = 1 ∧ (∀ p ∈ xs.zip ys, (c.mapIdx fun j e => e.toNat * p.1.toNat ^ j).sum % 31 = p.2.toNat) ∨
          b = 0 ∧ (∃ p ∈ xs.zip ys, (c.mapIdx fun j e => e.toNat * p.1.toNat ^ j).sum % 31 ≠ p.2.toNat)) →
        exec (.rsverify sd vx vy vc) s = .next (wroteS s sd b)))

/-- R239, R240: the checks of `RSDEC` in their order, and what it writes when `rsDecode` decodes. -/
def Obligations.RsdecWritesWhatItDecodes : Prop :=
  ∀ (vc : VReg) (sl se : SReg) (vx vy : VReg) (sg : SReg) (s : State) (xs ys : List Byte) (d : Word),
    Inv s → holdsV s vx xs → holdsV s vy ys → holdsS s sg d → sl ≠ se →
    (xs.length ≠ ys.length → exec (.rsdec vc sl se vx vy sg) s = .next (raise .wrongOperandLength s)) ∧
    (xs.length = ys.length →
      (¬ ((∀ x ∈ xs, x.toNat < 31) ∧ (∀ y ∈ ys, y.toNat < 31)) →
        exec (.rsdec vc sl se vx vy sg) s = .next (raise .elementOutOfRange s)) ∧
      ((∀ x ∈ xs, x.toNat < 31) ∧ (∀ y ∈ ys, y.toNat < 31) →
        (d.toInt < 0 → exec (.rsdec vc sl se vx vy sg) s = .next (raise .indexOutOfRange s)) ∧
        (0 ≤ d.toInt → (xs.dedup.length : Int) < d.toInt + 1 →
          exec (.rsdec vc sl se vx vy sg) s = .next (raise .wrongPointCount s)) ∧
        (0 ≤ d.toInt → d.toInt + 1 ≤ (xs.dedup.length : Int) → ∃ (c : List Nat) (loc cnt : Int),
          rsDecode 31 (elems xs) (elems ys) d.toNat = .ok (c, loc, cnt) ∧ (c.length : Int) = d.toInt + 1 ∧
          (cnt = 0 ∨ cnt = 1 ∨ cnt = 2) ∧
          exec (.rsdec vc sl se vx vy sg) s = .next { s with
            vectors := s.vectors.set vc ⟨true, toBytes c⟩,
            scalars := (s.scalars.set sl ⟨true, BitVec.ofInt 32 loc⟩).set se ⟨true, BitVec.ofInt 32 cnt⟩, err := 0 })))

/-- R244, R239: for points with distinct x on a polynomial of d + 1 coefficients, decoding by single exclusion returns the
polynomial with errorCount 0; with at least two points to spare, and exactly one y replaced by a different value, it
returns the polynomial, the index of the replaced point and errorCount 1. -/
def Obligations.SingleExclusionCorrectsOneError : Prop :=
  ∀ (xs c : List Nat) (d : Nat), xs.Nodup → (∀ x ∈ xs, x < 31) → c.length = d + 1 → (∀ e ∈ c, e < 31) →
    (d + 1 ≤ xs.length → rsDecode 31 xs (xs.map (rsEval 31 c)) d = .ok (c, -1, 0)) ∧
    (d + 3 ≤ xs.length → ∀ (e y : Nat), e < xs.length → y < 31 → y ≠ rsEval 31 c (xs.getD e 0) →
      rsDecode 31 xs ((xs.map (rsEval 31 c)).set e y) d = .ok (c, e, 1))

/-- R242, R243: the checks of `RSDECMV` in their order, and what it writes when `rsDecodeMV` decodes: the coefficients,
the flagged indices and their number. -/
def Obligations.RsdecmvWritesWhatItDecodes : Prop :=
  ∀ (vc vl : VReg) (se : SReg) (vx vy : VReg) (sg : SReg) (s : State) (xs ys : List Byte) (d : Word),
    Inv s → holdsV s vx xs → holdsV s vy ys → holdsS s sg d → vc ≠ vl →
    (xs.length ≠ ys.length → exec (.rsdecmv vc vl se vx vy sg) s = .next (raise .wrongOperandLength s)) ∧
    (xs.length = ys.length →
      (¬ ((∀ x ∈ xs, x.toNat < 31) ∧ (∀ y ∈ ys, y.toNat < 31)) →
        exec (.rsdecmv vc vl se vx vy sg) s = .next (raise .elementOutOfRange s)) ∧
      ((∀ x ∈ xs, x.toNat < 31) ∧ (∀ y ∈ ys, y.toNat < 31) →
        (d.toInt < 0 → exec (.rsdecmv vc vl se vx vy sg) s = .next (raise .indexOutOfRange s)) ∧
        (0 ≤ d.toInt → 256 < xs.length → exec (.rsdecmv vc vl se vx vy sg) s = .next (raise .lengthOverflow s)) ∧
        (0 ≤ d.toInt → xs.length ≤ 256 → (xs.dedup.length : Int) < d.toInt + 1 →
          exec (.rsdecmv vc vl se vx vy sg) s = .next (raise .wrongPointCount s)) ∧
        (0 ≤ d.toInt → xs.length ≤ 256 → d.toInt + 1 ≤ (xs.dedup.length : Int) → ∃ c flagged : List Nat,
          rsDecodeMV 31 (elems xs) (elems ys) d.toNat = .ok (c, flagged) ∧ (c.length : Int) = d.toInt + 1 ∧
          flagged.Pairwise (· < ·) ∧ (∀ i ∈ flagged, i < xs.length) ∧
          exec (.rsdecmv vc vl se vx vy sg) s = .next { s with
            vectors := (s.vectors.set vc ⟨true, toBytes c⟩).set vl ⟨true, toBytes flagged⟩,
            scalars := s.scalars.set se ⟨true, BitVec.ofNat 32 flagged.length⟩, err := 0 })))

/-- R241: the combinations of k indices out of 0 .. total - 1 are all the ascending tuples, in lexicographic order. -/
def Obligations.CombinationsAreLexicographic : Prop :=
  ∀ k total : Nat,
    (combinations k (List.range total)).Pairwise (List.Lex (· < ·)) ∧
    (∀ T : List Nat, T ∈ combinations k (List.range total) ↔
      T.length = k ∧ T.Pairwise (· < ·) ∧ ∀ i ∈ T, i < total) ∧
    (combinations k (List.range total)).length = Nat.choose total k
end

