-- ==== Sys2Proof/Laws/State.lean ====
section
/-! SUPPORT. One lemma per field per update of State, each true by `rfl`, so that no proof unfolds a record update. -/

namespace Sys2Proof.Machine

/-! ### `setScalar` -/

@[simp] theorem setScalar_scalars (s : State) (r : SReg) (x : Word) : (s.setScalar r x).scalars = s.scalars.set r ⟨true, x⟩ := rfl
@[simp] theorem setScalar_vectors (s : State) (r : SReg) (x : Word) : (s.setScalar r x).vectors = s.vectors := rfl
@[simp] theorem setScalar_exp (s : State) (r : SReg) (x : Word) : (s.setScalar r x).exp = s.exp := rfl
@[simp] theorem setScalar_log (s : State) (r : SReg) (x : Word) : (s.setScalar r x).log = s.log := rfl
@[simp] theorem setScalar_gen (s : State) (r : SReg) (x : Word) : (s.setScalar r x).gen = s.gen := rfl
@[simp] theorem setScalar_m (s : State) (r : SReg) (x : Word) : (s.setScalar r x).m = s.m := rfl
@[simp] theorem setScalar_prim (s : State) (r : SReg) (x : Word) : (s.setScalar r x).prim = s.prim := rfl
@[simp] theorem setScalar_n (s : State) (r : SReg) (x : Word) : (s.setScalar r x).n = s.n := rfl
@[simp] theorem setScalar_t (s : State) (r : SReg) (x : Word) : (s.setScalar r x).t = s.t := rfl
@[simp] theorem setScalar_k (s : State) (r : SReg) (x : Word) : (s.setScalar r x).k = s.k := rfl
@[simp] theorem setScalar_state (s : State) (r : SReg) (x : Word) : (s.setScalar r x).state = s.state := rfl
@[simp] theorem setScalar_err (s : State) (r : SReg) (x : Word) : (s.setScalar r x).err = s.err := rfl
@[simp] theorem setScalar_errsticky (s : State) (r : SReg) (x : Word) : (s.setScalar r x).errsticky = s.errsticky := rfl
@[simp] theorem setScalar_dreason (s : State) (r : SReg) (x : Word) : (s.setScalar r x).dreason = s.dreason := rfl
@[simp] theorem setScalar_ident (s : State) (r : SReg) (x : Word) : (s.setScalar r x).ident = s.ident := rfl
@[simp] theorem setScalar_feat (s : State) (r : SReg) (x : Word) : (s.setScalar r x).feat = s.feat := rfl
@[simp] theorem setScalar_vlmax (s : State) (r : SReg) (x : Word) : (s.setScalar r x).vlmax = s.vlmax := rfl
@[simp] theorem setScalar_rsp (s : State) (r : SReg) (x : Word) : (s.setScalar r x).rsp = s.rsp := rfl
@[simp] theorem setScalar_defaultPrims (s : State) (r : SReg) (x : Word) : (s.setScalar r x).defaultPrims = s.defaultPrims := rfl
@[simp] theorem setScalar_port (s : State) (r : SReg) (x : Word) : (s.setScalar r x).port = s.port := rfl
@[simp] theorem setScalar_reply (s : State) (r : SReg) (x : Word) : (s.setScalar r x).reply = s.reply := rfl
@[simp] theorem setScalar_freeIdx (s : State) (r : SReg) (x : Word) : (s.setScalar r x).freeIdx = s.freeIdx := rfl

/-! ### `setVector` -/

@[simp] theorem setVector_scalars (s : State) (r : VReg) (xs : List Byte) : (s.setVector r xs).scalars = s.scalars := rfl
@[simp] theorem setVector_vectors (s : State) (r : VReg) (xs : List Byte) : (s.setVector r xs).vectors = s.vectors.set r ⟨true, xs⟩ := rfl
@[simp] theorem setVector_exp (s : State) (r : VReg) (xs : List Byte) : (s.setVector r xs).exp = s.exp := rfl
@[simp] theorem setVector_log (s : State) (r : VReg) (xs : List Byte) : (s.setVector r xs).log = s.log := rfl
@[simp] theorem setVector_gen (s : State) (r : VReg) (xs : List Byte) : (s.setVector r xs).gen = s.gen := rfl
@[simp] theorem setVector_m (s : State) (r : VReg) (xs : List Byte) : (s.setVector r xs).m = s.m := rfl
@[simp] theorem setVector_prim (s : State) (r : VReg) (xs : List Byte) : (s.setVector r xs).prim = s.prim := rfl
@[simp] theorem setVector_n (s : State) (r : VReg) (xs : List Byte) : (s.setVector r xs).n = s.n := rfl
@[simp] theorem setVector_t (s : State) (r : VReg) (xs : List Byte) : (s.setVector r xs).t = s.t := rfl
@[simp] theorem setVector_k (s : State) (r : VReg) (xs : List Byte) : (s.setVector r xs).k = s.k := rfl
@[simp] theorem setVector_state (s : State) (r : VReg) (xs : List Byte) : (s.setVector r xs).state = s.state := rfl
@[simp] theorem setVector_err (s : State) (r : VReg) (xs : List Byte) : (s.setVector r xs).err = s.err := rfl
@[simp] theorem setVector_errsticky (s : State) (r : VReg) (xs : List Byte) : (s.setVector r xs).errsticky = s.errsticky := rfl
@[simp] theorem setVector_dreason (s : State) (r : VReg) (xs : List Byte) : (s.setVector r xs).dreason = s.dreason := rfl
@[simp] theorem setVector_ident (s : State) (r : VReg) (xs : List Byte) : (s.setVector r xs).ident = s.ident := rfl
@[simp] theorem setVector_feat (s : State) (r : VReg) (xs : List Byte) : (s.setVector r xs).feat = s.feat := rfl
@[simp] theorem setVector_vlmax (s : State) (r : VReg) (xs : List Byte) : (s.setVector r xs).vlmax = s.vlmax := rfl
@[simp] theorem setVector_rsp (s : State) (r : VReg) (xs : List Byte) : (s.setVector r xs).rsp = s.rsp := rfl
@[simp] theorem setVector_defaultPrims (s : State) (r : VReg) (xs : List Byte) : (s.setVector r xs).defaultPrims = s.defaultPrims := rfl
@[simp] theorem setVector_port (s : State) (r : VReg) (xs : List Byte) : (s.setVector r xs).port = s.port := rfl
@[simp] theorem setVector_reply (s : State) (r : VReg) (xs : List Byte) : (s.setVector r xs).reply = s.reply := rfl
@[simp] theorem setVector_freeIdx (s : State) (r : VReg) (xs : List Byte) : (s.setVector r xs).freeIdx = s.freeIdx := rfl

/-! ### `dropField` -/

@[simp] theorem dropField_scalars (s : State) : (s.dropField).scalars = s.scalars := rfl
@[simp] theorem dropField_vectors (s : State) : (s.dropField).vectors = s.vectors := rfl
@[simp] theorem dropField_exp (s : State) : (s.dropField).exp = [] := rfl
@[simp] theorem dropField_log (s : State) : (s.dropField).log = [] := rfl
@[simp] theorem dropField_gen (s : State) : (s.dropField).gen = [] := rfl
@[simp] theorem dropField_m (s : State) : (s.dropField).m = 0 := rfl
@[simp] theorem dropField_prim (s : State) : (s.dropField).prim = 0 := rfl
@[simp] theorem dropField_n (s : State) : (s.dropField).n = 0 := rfl
@[simp] theorem dropField_t (s : State) : (s.dropField).t = 0 := rfl
@[simp] theorem dropField_k (s : State) : (s.dropField).k = 0 := rfl
@[simp] theorem dropField_state (s : State) : (s.dropField).state = 0 := rfl
@[simp] theorem dropField_err (s : State) : (s.dropField).err = s.err := rfl
@[simp] theorem dropField_errsticky (s : State) : (s.dropField).errsticky = s.errsticky := rfl
@[simp] theorem dropField_dreason (s : State) : (s.dropField).dreason = 0 := rfl
@[simp] theorem dropField_ident (s : State) : (s.dropField).ident = s.ident := rfl
@[simp] theorem dropField_feat (s : State) : (s.dropField).feat = s.feat := rfl
@[simp] theorem dropField_vlmax (s : State) : (s.dropField).vlmax = s.vlmax := rfl
@[simp] theorem dropField_rsp (s : State) : (s.dropField).rsp = s.rsp := rfl
@[simp] theorem dropField_defaultPrims (s : State) : (s.dropField).defaultPrims = s.defaultPrims := rfl
@[simp] theorem dropField_port (s : State) : (s.dropField).port = s.port := rfl
@[simp] theorem dropField_reply (s : State) : (s.dropField).reply = s.reply := rfl
@[simp] theorem dropField_freeIdx (s : State) : (s.dropField).freeIdx = s.freeIdx := rfl

/-! ### `dropCodec` -/

@[simp] theorem dropCodec_scalars (s : State) : (s.dropCodec).scalars = s.scalars := rfl
@[simp] theorem dropCodec_vectors (s : State) : (s.dropCodec).vectors = s.vectors := rfl
@[simp] theorem dropCodec_exp (s : State) : (s.dropCodec).exp = s.exp := rfl
@[simp] theorem dropCodec_log (s : State) : (s.dropCodec).log = s.log := rfl
@[simp] theorem dropCodec_gen (s : State) : (s.dropCodec).gen = [] := rfl
@[simp] theorem dropCodec_m (s : State) : (s.dropCodec).m = s.m := rfl
@[simp] theorem dropCodec_prim (s : State) : (s.dropCodec).prim = s.prim := rfl
@[simp] theorem dropCodec_n (s : State) : (s.dropCodec).n = s.n := rfl
@[simp] theorem dropCodec_t (s : State) : (s.dropCodec).t = 0 := rfl
@[simp] theorem dropCodec_k (s : State) : (s.dropCodec).k = 0 := rfl
@[simp] theorem dropCodec_state (s : State) : (s.dropCodec).state = 1 := rfl
@[simp] theorem dropCodec_err (s : State) : (s.dropCodec).err = s.err := rfl
@[simp] theorem dropCodec_errsticky (s : State) : (s.dropCodec).errsticky = s.errsticky := rfl
@[simp] theorem dropCodec_dreason (s : State) : (s.dropCodec).dreason = 0 := rfl
@[simp] theorem dropCodec_ident (s : State) : (s.dropCodec).ident = s.ident := rfl
@[simp] theorem dropCodec_feat (s : State) : (s.dropCodec).feat = s.feat := rfl
@[simp] theorem dropCodec_vlmax (s : State) : (s.dropCodec).vlmax = s.vlmax := rfl
@[simp] theorem dropCodec_rsp (s : State) : (s.dropCodec).rsp = s.rsp := rfl
@[simp] theorem dropCodec_defaultPrims (s : State) : (s.dropCodec).defaultPrims = s.defaultPrims := rfl
@[simp] theorem dropCodec_port (s : State) : (s.dropCodec).port = s.port := rfl
@[simp] theorem dropCodec_reply (s : State) : (s.dropCodec).reply = s.reply := rfl
@[simp] theorem dropCodec_freeIdx (s : State) : (s.dropCodec).freeIdx = s.freeIdx := rfl

/-! ### `installField` -/

@[simp] theorem installField_scalars (s : State) (m prim : Nat) (exp : Memory 8) (log : Memory 9) : (s.installField m prim exp log).scalars = s.scalars := rfl
@[simp] theorem installField_vectors (s : State) (m prim : Nat) (exp : Memory 8) (log : Memory 9) : (s.installField m prim exp log).vectors = s.vectors := rfl
@[simp] theorem installField_exp (s : State) (m prim : Nat) (exp : Memory 8) (log : Memory 9) : (s.installField m prim exp log).exp = exp := rfl
@[simp] theorem installField_log (s : State) (m prim : Nat) (exp : Memory 8) (log : Memory 9) : (s.installField m prim exp log).log = log := rfl
@[simp] theorem installField_gen (s : State) (m prim : Nat) (exp : Memory 8) (log : Memory 9) : (s.installField m prim exp log).gen = s.gen := rfl
@[simp] theorem installField_m (s : State) (m prim : Nat) (exp : Memory 8) (log : Memory 9) : (s.installField m prim exp log).m = BitVec.ofNat 4 m := rfl
@[simp] theorem installField_prim (s : State) (m prim : Nat) (exp : Memory 8) (log : Memory 9) : (s.installField m prim exp log).prim = BitVec.ofNat 9 prim := rfl
@[simp] theorem installField_n (s : State) (m prim : Nat) (exp : Memory 8) (log : Memory 9) : (s.installField m prim exp log).n = BitVec.ofNat 8 (2 ^ m - 1) := rfl
@[simp] theorem installField_t (s : State) (m prim : Nat) (exp : Memory 8) (log : Memory 9) : (s.installField m prim exp log).t = s.t := rfl
@[simp] theorem installField_k (s : State) (m prim : Nat) (exp : Memory 8) (log : Memory 9) : (s.installField m prim exp log).k = s.k := rfl
@[simp] theorem installField_state (s : State) (m prim : Nat) (exp : Memory 8) (log : Memory 9) : (s.installField m prim exp log).state = 1 := rfl
@[simp] theorem installField_err (s : State) (m prim : Nat) (exp : Memory 8) (log : Memory 9) : (s.installField m prim exp log).err = s.err := rfl
@[simp] theorem installField_errsticky (s : State) (m prim : Nat) (exp : Memory 8) (log : Memory 9) : (s.installField m prim exp log).errsticky = s.errsticky := rfl
@[simp] theorem installField_dreason (s : State) (m prim : Nat) (exp : Memory 8) (log : Memory 9) : (s.installField m prim exp log).dreason = s.dreason := rfl
@[simp] theorem installField_ident (s : State) (m prim : Nat) (exp : Memory 8) (log : Memory 9) : (s.installField m prim exp log).ident = s.ident := rfl
@[simp] theorem installField_feat (s : State) (m prim : Nat) (exp : Memory 8) (log : Memory 9) : (s.installField m prim exp log).feat = s.feat := rfl
@[simp] theorem installField_vlmax (s : State) (m prim : Nat) (exp : Memory 8) (log : Memory 9) : (s.installField m prim exp log).vlmax = s.vlmax := rfl
@[simp] theorem installField_rsp (s : State) (m prim : Nat) (exp : Memory 8) (log : Memory 9) : (s.installField m prim exp log).rsp = s.rsp := rfl
@[simp] theorem installField_defaultPrims (s : State) (m prim : Nat) (exp : Memory 8) (log : Memory 9) : (s.installField m prim exp log).defaultPrims = s.defaultPrims := rfl
@[simp] theorem installField_port (s : State) (m prim : Nat) (exp : Memory 8) (log : Memory 9) : (s.installField m prim exp log).port = s.port := rfl
@[simp] theorem installField_reply (s : State) (m prim : Nat) (exp : Memory 8) (log : Memory 9) : (s.installField m prim exp log).reply = s.reply := rfl
@[simp] theorem installField_freeIdx (s : State) (m prim : Nat) (exp : Memory 8) (log : Memory 9) : (s.installField m prim exp log).freeIdx = s.freeIdx := rfl

/-! ### `installCodec` -/

@[simp] theorem installCodec_scalars (s : State) (t : Nat) (k : Int) (gen : List Nat) : (s.installCodec t k gen).scalars = s.scalars := rfl
@[simp] theorem installCodec_vectors (s : State) (t : Nat) (k : Int) (gen : List Nat) : (s.installCodec t k gen).vectors = s.vectors := rfl
@[simp] theorem installCodec_exp (s : State) (t : Nat) (k : Int) (gen : List Nat) : (s.installCodec t k gen).exp = s.exp := rfl
@[simp] theorem installCodec_log (s : State) (t : Nat) (k : Int) (gen : List Nat) : (s.installCodec t k gen).log = s.log := rfl
@[simp] theorem installCodec_gen (s : State) (t : Nat) (k : Int) (gen : List Nat) : (s.installCodec t k gen).gen = Memory.ofSeq gen := rfl
@[simp] theorem installCodec_m (s : State) (t : Nat) (k : Int) (gen : List Nat) : (s.installCodec t k gen).m = s.m := rfl
@[simp] theorem installCodec_prim (s : State) (t : Nat) (k : Int) (gen : List Nat) : (s.installCodec t k gen).prim = s.prim := rfl
@[simp] theorem installCodec_n (s : State) (t : Nat) (k : Int) (gen : List Nat) : (s.installCodec t k gen).n = s.n := rfl
@[simp] theorem installCodec_t (s : State) (t : Nat) (k : Int) (gen : List Nat) : (s.installCodec t k gen).t = BitVec.ofNat 7 t := rfl
@[simp] theorem installCodec_k (s : State) (t : Nat) (k : Int) (gen : List Nat) : (s.installCodec t k gen).k = BitVec.ofInt 8 k := rfl
@[simp] theorem installCodec_state (s : State) (t : Nat) (k : Int) (gen : List Nat) : (s.installCodec t k gen).state = 2 := rfl
@[simp] theorem installCodec_err (s : State) (t : Nat) (k : Int) (gen : List Nat) : (s.installCodec t k gen).err = s.err := rfl
@[simp] theorem installCodec_errsticky (s : State) (t : Nat) (k : Int) (gen : List Nat) : (s.installCodec t k gen).errsticky = s.errsticky := rfl
@[simp] theorem installCodec_dreason (s : State) (t : Nat) (k : Int) (gen : List Nat) : (s.installCodec t k gen).dreason = s.dreason := rfl
@[simp] theorem installCodec_ident (s : State) (t : Nat) (k : Int) (gen : List Nat) : (s.installCodec t k gen).ident = s.ident := rfl
@[simp] theorem installCodec_feat (s : State) (t : Nat) (k : Int) (gen : List Nat) : (s.installCodec t k gen).feat = s.feat := rfl
@[simp] theorem installCodec_vlmax (s : State) (t : Nat) (k : Int) (gen : List Nat) : (s.installCodec t k gen).vlmax = s.vlmax := rfl
@[simp] theorem installCodec_rsp (s : State) (t : Nat) (k : Int) (gen : List Nat) : (s.installCodec t k gen).rsp = s.rsp := rfl
@[simp] theorem installCodec_defaultPrims (s : State) (t : Nat) (k : Int) (gen : List Nat) : (s.installCodec t k gen).defaultPrims = s.defaultPrims := rfl
@[simp] theorem installCodec_port (s : State) (t : Nat) (k : Int) (gen : List Nat) : (s.installCodec t k gen).port = s.port := rfl
@[simp] theorem installCodec_reply (s : State) (t : Nat) (k : Int) (gen : List Nat) : (s.installCodec t k gen).reply = s.reply := rfl
@[simp] theorem installCodec_freeIdx (s : State) (t : Nat) (k : Int) (gen : List Nat) : (s.installCodec t k gen).freeIdx = s.freeIdx := rfl

/-! ### `setReason` -/

@[simp] theorem setReason_scalars (s : State) (reason : BitVec 8) : (s.setReason reason).scalars = s.scalars := rfl
@[simp] theorem setReason_vectors (s : State) (reason : BitVec 8) : (s.setReason reason).vectors = s.vectors := rfl
@[simp] theorem setReason_exp (s : State) (reason : BitVec 8) : (s.setReason reason).exp = s.exp := rfl
@[simp] theorem setReason_log (s : State) (reason : BitVec 8) : (s.setReason reason).log = s.log := rfl
@[simp] theorem setReason_gen (s : State) (reason : BitVec 8) : (s.setReason reason).gen = s.gen := rfl
@[simp] theorem setReason_m (s : State) (reason : BitVec 8) : (s.setReason reason).m = s.m := rfl
@[simp] theorem setReason_prim (s : State) (reason : BitVec 8) : (s.setReason reason).prim = s.prim := rfl
@[simp] theorem setReason_n (s : State) (reason : BitVec 8) : (s.setReason reason).n = s.n := rfl
@[simp] theorem setReason_t (s : State) (reason : BitVec 8) : (s.setReason reason).t = s.t := rfl
@[simp] theorem setReason_k (s : State) (reason : BitVec 8) : (s.setReason reason).k = s.k := rfl
@[simp] theorem setReason_state (s : State) (reason : BitVec 8) : (s.setReason reason).state = s.state := rfl
@[simp] theorem setReason_err (s : State) (reason : BitVec 8) : (s.setReason reason).err = s.err := rfl
@[simp] theorem setReason_errsticky (s : State) (reason : BitVec 8) : (s.setReason reason).errsticky = s.errsticky := rfl
@[simp] theorem setReason_dreason (s : State) (reason : BitVec 8) : (s.setReason reason).dreason = reason := rfl
@[simp] theorem setReason_ident (s : State) (reason : BitVec 8) : (s.setReason reason).ident = s.ident := rfl
@[simp] theorem setReason_feat (s : State) (reason : BitVec 8) : (s.setReason reason).feat = s.feat := rfl
@[simp] theorem setReason_vlmax (s : State) (reason : BitVec 8) : (s.setReason reason).vlmax = s.vlmax := rfl
@[simp] theorem setReason_rsp (s : State) (reason : BitVec 8) : (s.setReason reason).rsp = s.rsp := rfl
@[simp] theorem setReason_defaultPrims (s : State) (reason : BitVec 8) : (s.setReason reason).defaultPrims = s.defaultPrims := rfl
@[simp] theorem setReason_port (s : State) (reason : BitVec 8) : (s.setReason reason).port = s.port := rfl
@[simp] theorem setReason_reply (s : State) (reason : BitVec 8) : (s.setReason reason).reply = s.reply := rfl
@[simp] theorem setReason_freeIdx (s : State) (reason : BitVec 8) : (s.setReason reason).freeIdx = s.freeIdx := rfl

/-! ### `raise` -/

@[simp] theorem raise_scalars (e : Err) (s : State) : (raise e s).scalars = s.scalars := rfl
@[simp] theorem raise_vectors (e : Err) (s : State) : (raise e s).vectors = s.vectors := rfl
@[simp] theorem raise_exp (e : Err) (s : State) : (raise e s).exp = s.exp := rfl
@[simp] theorem raise_log (e : Err) (s : State) : (raise e s).log = s.log := rfl
@[simp] theorem raise_gen (e : Err) (s : State) : (raise e s).gen = s.gen := rfl
@[simp] theorem raise_m (e : Err) (s : State) : (raise e s).m = s.m := rfl
@[simp] theorem raise_prim (e : Err) (s : State) : (raise e s).prim = s.prim := rfl
@[simp] theorem raise_n (e : Err) (s : State) : (raise e s).n = s.n := rfl
@[simp] theorem raise_t (e : Err) (s : State) : (raise e s).t = s.t := rfl
@[simp] theorem raise_k (e : Err) (s : State) : (raise e s).k = s.k := rfl
@[simp] theorem raise_state (e : Err) (s : State) : (raise e s).state = s.state := rfl
@[simp] theorem raise_err (e : Err) (s : State) : (raise e s).err = BitVec.ofNat 8 e.code := rfl
@[simp] theorem raise_errsticky (e : Err) (s : State) : (raise e s).errsticky = s.errsticky ||| stickyBit e := rfl
@[simp] theorem raise_dreason (e : Err) (s : State) : (raise e s).dreason = s.dreason := rfl
@[simp] theorem raise_ident (e : Err) (s : State) : (raise e s).ident = s.ident := rfl
@[simp] theorem raise_feat (e : Err) (s : State) : (raise e s).feat = s.feat := rfl
@[simp] theorem raise_vlmax (e : Err) (s : State) : (raise e s).vlmax = s.vlmax := rfl
@[simp] theorem raise_rsp (e : Err) (s : State) : (raise e s).rsp = s.rsp := rfl
@[simp] theorem raise_defaultPrims (e : Err) (s : State) : (raise e s).defaultPrims = s.defaultPrims := rfl
@[simp] theorem raise_port (e : Err) (s : State) : (raise e s).port = s.port := rfl
@[simp] theorem raise_reply (e : Err) (s : State) : (raise e s).reply = s.reply := rfl
@[simp] theorem raise_freeIdx (e : Err) (s : State) : (raise e s).freeIdx = s.freeIdx := rfl

/-! ### `complete` -/

@[simp] theorem complete_scalars (s : State) : (complete s).scalars = s.scalars := rfl
@[simp] theorem complete_vectors (s : State) : (complete s).vectors = s.vectors := rfl
@[simp] theorem complete_exp (s : State) : (complete s).exp = s.exp := rfl
@[simp] theorem complete_log (s : State) : (complete s).log = s.log := rfl
@[simp] theorem complete_gen (s : State) : (complete s).gen = s.gen := rfl
@[simp] theorem complete_m (s : State) : (complete s).m = s.m := rfl
@[simp] theorem complete_prim (s : State) : (complete s).prim = s.prim := rfl
@[simp] theorem complete_n (s : State) : (complete s).n = s.n := rfl
@[simp] theorem complete_t (s : State) : (complete s).t = s.t := rfl
@[simp] theorem complete_k (s : State) : (complete s).k = s.k := rfl
@[simp] theorem complete_state (s : State) : (complete s).state = s.state := rfl
@[simp] theorem complete_err (s : State) : (complete s).err = 0 := rfl
@[simp] theorem complete_errsticky (s : State) : (complete s).errsticky = s.errsticky := rfl
@[simp] theorem complete_dreason (s : State) : (complete s).dreason = s.dreason := rfl
@[simp] theorem complete_ident (s : State) : (complete s).ident = s.ident := rfl
@[simp] theorem complete_feat (s : State) : (complete s).feat = s.feat := rfl
@[simp] theorem complete_vlmax (s : State) : (complete s).vlmax = s.vlmax := rfl
@[simp] theorem complete_rsp (s : State) : (complete s).rsp = s.rsp := rfl
@[simp] theorem complete_defaultPrims (s : State) : (complete s).defaultPrims = s.defaultPrims := rfl
@[simp] theorem complete_port (s : State) : (complete s).port = s.port := rfl
@[simp] theorem complete_reply (s : State) : (complete s).reply = s.reply := rfl
@[simp] theorem complete_freeIdx (s : State) : (complete s).freeIdx = s.freeIdx := rfl

/-! ### `clearSticky` -/

@[simp] theorem clearSticky_scalars (s : State) : (clearSticky s).scalars = s.scalars := rfl
@[simp] theorem clearSticky_vectors (s : State) : (clearSticky s).vectors = s.vectors := rfl
@[simp] theorem clearSticky_exp (s : State) : (clearSticky s).exp = s.exp := rfl
@[simp] theorem clearSticky_log (s : State) : (clearSticky s).log = s.log := rfl
@[simp] theorem clearSticky_gen (s : State) : (clearSticky s).gen = s.gen := rfl
@[simp] theorem clearSticky_m (s : State) : (clearSticky s).m = s.m := rfl
@[simp] theorem clearSticky_prim (s : State) : (clearSticky s).prim = s.prim := rfl
@[simp] theorem clearSticky_n (s : State) : (clearSticky s).n = s.n := rfl
@[simp] theorem clearSticky_t (s : State) : (clearSticky s).t = s.t := rfl
@[simp] theorem clearSticky_k (s : State) : (clearSticky s).k = s.k := rfl
@[simp] theorem clearSticky_state (s : State) : (clearSticky s).state = s.state := rfl
@[simp] theorem clearSticky_err (s : State) : (clearSticky s).err = s.err := rfl
@[simp] theorem clearSticky_errsticky (s : State) : (clearSticky s).errsticky = 0 := rfl
@[simp] theorem clearSticky_dreason (s : State) : (clearSticky s).dreason = s.dreason := rfl
@[simp] theorem clearSticky_ident (s : State) : (clearSticky s).ident = s.ident := rfl
@[simp] theorem clearSticky_feat (s : State) : (clearSticky s).feat = s.feat := rfl
@[simp] theorem clearSticky_vlmax (s : State) : (clearSticky s).vlmax = s.vlmax := rfl
@[simp] theorem clearSticky_rsp (s : State) : (clearSticky s).rsp = s.rsp := rfl
@[simp] theorem clearSticky_defaultPrims (s : State) : (clearSticky s).defaultPrims = s.defaultPrims := rfl
@[simp] theorem clearSticky_port (s : State) : (clearSticky s).port = s.port := rfl
@[simp] theorem clearSticky_reply (s : State) : (clearSticky s).reply = s.reply := rfl
@[simp] theorem clearSticky_freeIdx (s : State) : (clearSticky s).freeIdx = s.freeIdx := rfl

/-! ### `answer` -/

@[simp] theorem answer_scalars (s : State) (r : HostReply) : (s.answer r).scalars = s.scalars := rfl
@[simp] theorem answer_vectors (s : State) (r : HostReply) : (s.answer r).vectors = s.vectors := rfl
@[simp] theorem answer_exp (s : State) (r : HostReply) : (s.answer r).exp = s.exp := rfl
@[simp] theorem answer_log (s : State) (r : HostReply) : (s.answer r).log = s.log := rfl
@[simp] theorem answer_gen (s : State) (r : HostReply) : (s.answer r).gen = s.gen := rfl
@[simp] theorem answer_m (s : State) (r : HostReply) : (s.answer r).m = s.m := rfl
@[simp] theorem answer_prim (s : State) (r : HostReply) : (s.answer r).prim = s.prim := rfl
@[simp] theorem answer_n (s : State) (r : HostReply) : (s.answer r).n = s.n := rfl
@[simp] theorem answer_t (s : State) (r : HostReply) : (s.answer r).t = s.t := rfl
@[simp] theorem answer_k (s : State) (r : HostReply) : (s.answer r).k = s.k := rfl
@[simp] theorem answer_state (s : State) (r : HostReply) : (s.answer r).state = s.state := rfl
@[simp] theorem answer_err (s : State) (r : HostReply) : (s.answer r).err = s.err := rfl
@[simp] theorem answer_errsticky (s : State) (r : HostReply) : (s.answer r).errsticky = s.errsticky := rfl
@[simp] theorem answer_dreason (s : State) (r : HostReply) : (s.answer r).dreason = s.dreason := rfl
@[simp] theorem answer_ident (s : State) (r : HostReply) : (s.answer r).ident = s.ident := rfl
@[simp] theorem answer_feat (s : State) (r : HostReply) : (s.answer r).feat = s.feat := rfl
@[simp] theorem answer_vlmax (s : State) (r : HostReply) : (s.answer r).vlmax = s.vlmax := rfl
@[simp] theorem answer_rsp (s : State) (r : HostReply) : (s.answer r).rsp = s.rsp := rfl
@[simp] theorem answer_defaultPrims (s : State) (r : HostReply) : (s.answer r).defaultPrims = s.defaultPrims := rfl
@[simp] theorem answer_port (s : State) (r : HostReply) : (s.answer r).port = s.port := rfl
@[simp] theorem answer_reply (s : State) (r : HostReply) : (s.answer r).reply = r := rfl
@[simp] theorem answer_freeIdx (s : State) (r : HostReply) : (s.answer r).freeIdx = s.freeIdx := rfl

/-! ### `useFree` -/

@[simp] theorem useFree_scalars (s : State) : (s.useFree).scalars = s.scalars := rfl
@[simp] theorem useFree_vectors (s : State) : (s.useFree).vectors = s.vectors := rfl
@[simp] theorem useFree_exp (s : State) : (s.useFree).exp = s.exp := rfl
@[simp] theorem useFree_log (s : State) : (s.useFree).log = s.log := rfl
@[simp] theorem useFree_gen (s : State) : (s.useFree).gen = s.gen := rfl
@[simp] theorem useFree_m (s : State) : (s.useFree).m = s.m := rfl
@[simp] theorem useFree_prim (s : State) : (s.useFree).prim = s.prim := rfl
@[simp] theorem useFree_n (s : State) : (s.useFree).n = s.n := rfl
@[simp] theorem useFree_t (s : State) : (s.useFree).t = s.t := rfl
@[simp] theorem useFree_k (s : State) : (s.useFree).k = s.k := rfl
@[simp] theorem useFree_state (s : State) : (s.useFree).state = s.state := rfl
@[simp] theorem useFree_err (s : State) : (s.useFree).err = s.err := rfl
@[simp] theorem useFree_errsticky (s : State) : (s.useFree).errsticky = s.errsticky := rfl
@[simp] theorem useFree_dreason (s : State) : (s.useFree).dreason = s.dreason := rfl
@[simp] theorem useFree_ident (s : State) : (s.useFree).ident = s.ident := rfl
@[simp] theorem useFree_feat (s : State) : (s.useFree).feat = s.feat := rfl
@[simp] theorem useFree_vlmax (s : State) : (s.useFree).vlmax = s.vlmax := rfl
@[simp] theorem useFree_rsp (s : State) : (s.useFree).rsp = s.rsp := rfl
@[simp] theorem useFree_defaultPrims (s : State) : (s.useFree).defaultPrims = s.defaultPrims := rfl
@[simp] theorem useFree_port (s : State) : (s.useFree).port = s.port := rfl
@[simp] theorem useFree_reply (s : State) : (s.useFree).reply = s.reply := rfl
@[simp] theorem useFree_freeIdx (s : State) : (s.useFree).freeIdx = s.freeIdx + 1 := rfl

/-! ### `hostReset` -/

@[simp] theorem hostReset_scalars (s : State) : (hostReset s).scalars = State.reset.scalars := rfl
@[simp] theorem hostReset_vectors (s : State) : (hostReset s).vectors = State.reset.vectors := rfl
@[simp] theorem hostReset_exp (s : State) : (hostReset s).exp = State.reset.exp := rfl
@[simp] theorem hostReset_log (s : State) : (hostReset s).log = State.reset.log := rfl
@[simp] theorem hostReset_gen (s : State) : (hostReset s).gen = State.reset.gen := rfl
@[simp] theorem hostReset_m (s : State) : (hostReset s).m = State.reset.m := rfl
@[simp] theorem hostReset_prim (s : State) : (hostReset s).prim = State.reset.prim := rfl
@[simp] theorem hostReset_n (s : State) : (hostReset s).n = State.reset.n := rfl
@[simp] theorem hostReset_t (s : State) : (hostReset s).t = State.reset.t := rfl
@[simp] theorem hostReset_k (s : State) : (hostReset s).k = State.reset.k := rfl
@[simp] theorem hostReset_state (s : State) : (hostReset s).state = State.reset.state := rfl
@[simp] theorem hostReset_err (s : State) : (hostReset s).err = State.reset.err := rfl
@[simp] theorem hostReset_errsticky (s : State) : (hostReset s).errsticky = State.reset.errsticky := rfl
@[simp] theorem hostReset_dreason (s : State) : (hostReset s).dreason = State.reset.dreason := rfl
@[simp] theorem hostReset_ident (s : State) : (hostReset s).ident = s.ident := rfl
@[simp] theorem hostReset_feat (s : State) : (hostReset s).feat = s.feat := rfl
@[simp] theorem hostReset_vlmax (s : State) : (hostReset s).vlmax = s.vlmax := rfl
@[simp] theorem hostReset_rsp (s : State) : (hostReset s).rsp = s.rsp := rfl
@[simp] theorem hostReset_defaultPrims (s : State) : (hostReset s).defaultPrims = s.defaultPrims := rfl
@[simp] theorem hostReset_port (s : State) : (hostReset s).port = s.port := rfl
@[simp] theorem hostReset_reply (s : State) : (hostReset s).reply = State.reset.reply := rfl
@[simp] theorem hostReset_freeIdx (s : State) : (hostReset s).freeIdx = s.freeIdx := rfl

/-! ### `putS` -/

@[simp] theorem putS_scalars (s : State) (r : SReg) (v : Int) : (putS s r v).scalars = s.scalars.set r ⟨true, BitVec.ofInt 32 v⟩ := rfl
@[simp] theorem putS_vectors (s : State) (r : SReg) (v : Int) : (putS s r v).vectors = s.vectors := rfl
@[simp] theorem putS_exp (s : State) (r : SReg) (v : Int) : (putS s r v).exp = s.exp := rfl
@[simp] theorem putS_log (s : State) (r : SReg) (v : Int) : (putS s r v).log = s.log := rfl
@[simp] theorem putS_gen (s : State) (r : SReg) (v : Int) : (putS s r v).gen = s.gen := rfl
@[simp] theorem putS_m (s : State) (r : SReg) (v : Int) : (putS s r v).m = s.m := rfl
@[simp] theorem putS_prim (s : State) (r : SReg) (v : Int) : (putS s r v).prim = s.prim := rfl
@[simp] theorem putS_n (s : State) (r : SReg) (v : Int) : (putS s r v).n = s.n := rfl
@[simp] theorem putS_t (s : State) (r : SReg) (v : Int) : (putS s r v).t = s.t := rfl
@[simp] theorem putS_k (s : State) (r : SReg) (v : Int) : (putS s r v).k = s.k := rfl
@[simp] theorem putS_state (s : State) (r : SReg) (v : Int) : (putS s r v).state = s.state := rfl
@[simp] theorem putS_err (s : State) (r : SReg) (v : Int) : (putS s r v).err = s.err := rfl
@[simp] theorem putS_errsticky (s : State) (r : SReg) (v : Int) : (putS s r v).errsticky = s.errsticky := rfl
@[simp] theorem putS_dreason (s : State) (r : SReg) (v : Int) : (putS s r v).dreason = s.dreason := rfl
@[simp] theorem putS_ident (s : State) (r : SReg) (v : Int) : (putS s r v).ident = s.ident := rfl
@[simp] theorem putS_feat (s : State) (r : SReg) (v : Int) : (putS s r v).feat = s.feat := rfl
@[simp] theorem putS_vlmax (s : State) (r : SReg) (v : Int) : (putS s r v).vlmax = s.vlmax := rfl
@[simp] theorem putS_rsp (s : State) (r : SReg) (v : Int) : (putS s r v).rsp = s.rsp := rfl
@[simp] theorem putS_defaultPrims (s : State) (r : SReg) (v : Int) : (putS s r v).defaultPrims = s.defaultPrims := rfl
@[simp] theorem putS_port (s : State) (r : SReg) (v : Int) : (putS s r v).port = s.port := rfl
@[simp] theorem putS_reply (s : State) (r : SReg) (v : Int) : (putS s r v).reply = s.reply := rfl
@[simp] theorem putS_freeIdx (s : State) (r : SReg) (v : Int) : (putS s r v).freeIdx = s.freeIdx := rfl

end Sys2Proof.Machine
end

