-- ==== Sys2Proof/Laws/Inv.lean ====
section
/-! SUPPORT. The updates of State that keep the invariant of Safety.lean for a plain reason: it speaks of nothing they
change, or of what they change only by a bound. -/

namespace Sys2Proof.Machine

/-- The invariant speaks of no scalar register. -/
theorem inv_setScalar {s : State} (h : Inv s) (r : SReg) (x : Word) : Inv (s.setScalar r x) :=
  ⟨h.state_legal, h.err_legal, h.sticky_legal, h.dreason_legal, h.constants, h.vectors_fit, h.memories, h.no_field,
    h.no_codec, h.field_built, h.codec_built⟩

/-- A vector register may hold any sequence that fits. -/
theorem inv_setVector {s : State} (h : Inv s) (r : VReg) {xs : List Byte} (hx : xs.length ≤ 512) :
    Inv (s.setVector r xs) := by
  refine ⟨h.state_legal, h.err_legal, h.sticky_legal, h.dreason_legal, h.constants, ?_, h.memories, h.no_field,
    h.no_codec, h.field_built, h.codec_built⟩
  intro q
  by_cases e : q = r
  · subst e
    simpa using hx
  · have := h.vectors_fit q
    rw [setVector_vectors]
    have hne : (s.vectors.set r ⟨true, xs⟩)[q] = s.vectors[q] := by
      simpa using Vector.getElem_set_ne r.2 q.2 (fun e' => e (Fin.ext e'.symm))
    rw [hne]
    exact this

/-- The invariant speaks of no port operation, no reply and no counter of free values. -/
theorem inv_port {s : State} (h : Inv s) (port : List HostOp) (reply : HostReply) (freeIdx : Nat) :
    Inv { s with port := port, reply := reply, freeIdx := freeIdx } :=
  ⟨h.state_legal, h.err_legal, h.sticky_legal, h.dreason_legal, h.constants, h.vectors_fit, h.memories, h.no_field,
    h.no_codec, h.field_built, h.codec_built⟩

/-- A command that ends without an error keeps the invariant of the state it computed. -/
theorem inv_complete {s : State} (h : Inv s) : Inv (complete s) :=
  ⟨h.state_legal, by simp, h.sticky_legal, h.dreason_legal, h.constants, h.vectors_fit, h.memories, h.no_field,
    h.no_codec, h.field_built, h.codec_built⟩

/-- An error keeps the invariant. -/
theorem inv_raise {s : State} (h : Inv s) (e : Err) : Inv (raise e s) := by
  refine ⟨h.state_legal, ?_, ?_, h.dreason_legal, h.constants, h.vectors_fit, h.memories, h.no_field, h.no_codec,
    h.field_built, h.codec_built⟩
  · cases e <;> simp [Err.code]
  · have hs := h.sticky_legal
    have he : stickyBit e &&& 0xFFFF0001#32 = 0 := by cases e <;> decide
    rw [raise_errsticky]
    calc (s.errsticky ||| stickyBit e) &&& 0xFFFF0001#32
        = (s.errsticky &&& 0xFFFF0001#32) ||| (stickyBit e &&& 0xFFFF0001#32) := by
          ext i
          simp only [BitVec.getElem_and, BitVec.getElem_or]
          cases s.errsticky[i] <;> cases (stickyBit e)[i] <;> simp
      _ = 0 := by rw [hs, he]; rfl

end Sys2Proof.Machine
end

