-- ==== Sys2Proof/Laws/Memory.lean ====
section
/-! SUPPORT. The laws of the element-indexed memories: reading after writing, and the canonical form. -/

namespace Sys2Proof.Machine

/-- A memory of 8-bit entries is a list of the host's cells. -/
theorem memory_is_cells : Memory 8 = List Host.Cell := rfl

/-- A write is read back. -/
@[simp] theorem read_write_self {w : Nat} (μ : Memory w) (a : Nat) (v : BitVec w) :
    Memory.read (Memory.write μ a v) a = some v := by
  induction μ with
  | nil => simp [Memory.write, Memory.read]
  | cons p rest ih =>
    obtain ⟨k, x⟩ := p
    simp only [Memory.write]
    split
    · simp [Memory.read]
    · split
      · simp [Memory.read]
      · rename_i h1 h2
        simp [Memory.read, Ne.symm h2, ih]

/-- A write leaves every other entry alone. -/
theorem read_write_ne {w : Nat} (μ : Memory w) {a b : Nat} (v : BitVec w) (h : b ≠ a) :
    Memory.read (Memory.write μ a v) b = Memory.read μ b := by
  induction μ with
  | nil => simp [Memory.write, Memory.read, Ne.symm h]
  | cons p rest ih =>
    obtain ⟨k, x⟩ := p
    simp only [Memory.write]
    split
    · simp [Memory.read, Ne.symm h]
    · split
      · rename_i h1 h2
        subst h2
        simp [Memory.read, Ne.symm h]
      · simp [Memory.read, ih]

/-- The indices of a memory after a write: those before, and the one written. -/
theorem mem_keys_write {w : Nat} (μ : Memory w) (a : Nat) (v : BitVec w) {k : Nat}
    (h : k ∈ (Memory.write μ a v).map Prod.fst) : k = a ∨ k ∈ μ.map Prod.fst := by
  induction μ with
  | nil => simpa [Memory.write] using h
  | cons p rest ih =>
    obtain ⟨j, x⟩ := p
    simp only [Memory.write] at h
    split at h
    · simpa using h
    · split at h
      · simp at h ⊢
        tauto
      · simp only [List.map_cons, List.mem_cons] at h ⊢
        rcases h with h | h
        · exact .inr (.inl h)
        · rcases ih h with h | h
          · exact .inl h
          · exact .inr (.inr h)

/-- The empty memory has the canonical form. -/
@[simp] theorem wf_nil {w : Nat} : Memory.wf ([] : Memory w) := List.Pairwise.nil

/-- A write keeps the canonical form. -/
theorem wf_write {w : Nat} {μ : Memory w} (h : Memory.wf μ) (a : Nat) (v : BitVec w) :
    Memory.wf (Memory.write μ a v) := by
  induction μ with
  | nil => simp [Memory.write, Memory.wf]
  | cons p rest ih =>
    obtain ⟨k, x⟩ := p
    simp only [Memory.wf, List.map_cons, List.pairwise_cons] at h
    obtain ⟨h1, h2⟩ := h
    simp only [Memory.write]
    split
    · rename_i hlt
      simp only [Memory.wf, List.map_cons, List.pairwise_cons, List.mem_cons]
      refine ⟨?_, h1, h2⟩
      rintro b (rfl | hb)
      · exact hlt
      · exact lt_trans hlt (h1 b hb)
    · split
      · rename_i _ heq
        subst heq
        simp only [Memory.wf, List.map_cons, List.pairwise_cons]
        exact ⟨h1, h2⟩
      · rename_i hge hne
        simp only [Memory.wf, List.map_cons, List.pairwise_cons]
        refine ⟨?_, ih h2⟩
        intro b hb
        rcases mem_keys_write rest a v hb with rfl | hb
        · omega
        · exact h1 b hb

/-- Writes in a row keep the canonical form. -/
theorem wf_foldl_write (ps : List (Nat × Nat)) {μ : Memory 8} (h : Memory.wf μ) :
    Memory.wf (ps.foldl (fun μ p => Memory.write μ p.2 (BitVec.ofNat 8 p.1)) μ) := by
  induction ps generalizing μ with
  | nil => exact h
  | cons p ps ih => exact ih (wf_write h _ _)

/-- A memory made from a sequence has the canonical form. -/
theorem wf_ofSeq (seq : List Nat) : Memory.wf (Memory.ofSeq seq) := wf_foldl_write _ wf_nil

/-- The loop that builds the tables keeps the canonical form of both. -/
theorem wf_buildLoop (m prim count : Nat) : ∀ (i x : Nat) (tables : Memory 8 × Memory 9),
    Memory.wf tables.1 → Memory.wf tables.2 →
    Memory.wf (buildLoop m prim count i x tables).1 ∧ Memory.wf (buildLoop m prim count i x tables).2 := by
  induction count with
  | zero => intro i x tables h1 h2; exact ⟨h1, h2⟩
  | succ count ih => intro i x tables h1 h2; exact ih _ _ _ (wf_write h1 _ _) (wf_write h2 _ _)

/-- The tables that `gfBuild` makes have the canonical form. -/
theorem wf_gfBuild (m prim : Nat) : Memory.wf (gfBuild m prim).1 ∧ Memory.wf (gfBuild m prim).2 :=
  wf_buildLoop _ _ _ _ _ _ (wf_write wf_nil _ _)
    (wf_write (wf_write wf_nil 0 (BitVec.ofInt 9 (-1))) 1 0)

/-- The memories after reset have the canonical form. -/
theorem wf_reset : Memory.wf State.reset.exp ∧ Memory.wf State.reset.log ∧ Memory.wf State.reset.gen :=
  ⟨wf_nil, wf_nil, wf_nil⟩

end Sys2Proof.Machine
end

