-- ==== Sys2Proof/Laws/Ops.lean ====
section
/-! SUPPORT. For each shared operation, all it can do: when it answers, when it raises, and which error. -/

namespace Sys2Proof.Machine

/-! ### Sequencing -/

/-- A sequence of checks answers exactly when every part does. -/
theorem bind_eq_ok {α β : Type} {x : Except Err α} {f : α → Except Err β} {r : β} :
    (x >>= f) = .ok r ↔ ∃ a, x = .ok a ∧ f a = .ok r := by
  cases x <;> simp [bind, Except.bind]

/-- A sequence of checks raises what its first part raises, or what the rest raises. -/
theorem bind_eq_error {α β : Type} {x : Except Err α} {f : α → Except Err β} {e : Err} :
    (x >>= f) = .error e ↔ x = .error e ∨ ∃ a, x = .ok a ∧ f a = .error e := by
  cases x <;> simp [bind, Except.bind]

/-- The end of a command whose rule computed a state (R305). -/
@[simp] theorem finish_ok (s t : State) : finish s (.ok t) = .next (complete t) := rfl

/-- The end of a command whose rule raised an error (R305). -/
@[simp] theorem finish_error (s : State) (e : Err) : finish s (.error e) = .next (raise e s) := rfl

/-- A command always ends with a next state: what its rule computed, or the error. -/
theorem finish_cases (s : State) (r : Except Err State) :
    (∃ t, r = .ok t ∧ finish s r = .next (complete t)) ∨ (∃ e, r = .error e ∧ finish s r = .next (raise e s)) := by
  cases r with
  | ok t => exact .inl ⟨t, rfl, rfl⟩
  | error e => exact .inr ⟨e, rfl, rfl⟩

/-! ### Registers -/

/-- A scalar source answers exactly its data, and only where it is written (R23). -/
theorem readS_eq_ok {s : State} {r : SReg} {x : Word} : readS s r = .ok x ↔ s.scalars[r] = ⟨true, x⟩ := by
  simp only [readS]
  rcases s.scalars[r] with ⟨v, d⟩
  cases v <;> simp

/-- A scalar source raises exactly `OperandUnwritten`, and only where it is unwritten (R23). -/
theorem readS_eq_error {s : State} {r : SReg} {e : Err} :
    readS s r = .error e ↔ e = .operandUnwritten ∧ s.scalars[r].valid = false := by
  simp only [readS]
  rcases s.scalars[r] with ⟨v, d⟩
  cases v <;> simp [eq_comm]

/-- A vector source answers exactly its entries, and only where it is written (R23). -/
theorem readV_eq_ok {s : State} {r : VReg} {xs : List Byte} : readV s r = .ok xs ↔ s.vectors[r] = ⟨true, xs⟩ := by
  simp only [readV]
  rcases s.vectors[r] with ⟨v, d⟩
  cases v <;> simp

/-- A vector source raises exactly `OperandUnwritten`, and only where it is unwritten (R23). -/
theorem readV_eq_error {s : State} {r : VReg} {e : Err} :
    readV s r = .error e ↔ e = .operandUnwritten ∧ s.vectors[r].valid = false := by
  simp only [readV]
  rcases s.vectors[r] with ⟨v, d⟩
  cases v <;> simp [eq_comm]

/-- A written scalar register is read back. -/
theorem readS_setScalar_self (s : State) (r : SReg) (x : Word) : readS (s.setScalar r x) r = .ok x := by
  simp [readS]

/-- A write of a scalar register leaves the others alone. -/
theorem scalars_setScalar_ne (s : State) {r q : SReg} (x : Word) (h : q ≠ r) :
    (s.setScalar r x).scalars[q] = s.scalars[q] := by
  simpa using Vector.getElem_set_ne r.2 q.2 (fun e => h (Fin.ext e.symm))

/-- A written vector register is read back. -/
theorem readV_setVector_self (s : State) (r : VReg) (xs : List Byte) : readV (s.setVector r xs) r = .ok xs := by
  simp [readV]

/-- A write of a vector register leaves the others alone. -/
theorem vectors_setVector_ne (s : State) {r q : VReg} (xs : List Byte) (h : q ≠ r) :
    (s.setVector r xs).vectors[q] = s.vectors[q] := by
  simpa using Vector.getElem_set_ne r.2 q.2 (fun e => h (Fin.ext e.symm))

/-- A sequence that fits is written (R13). -/
theorem putV_eq_ok {s t : State} {r : VReg} {seq : List Nat} :
    putV s r seq = .ok t ↔ seq.length ≤ s.vlmax.toNat ∧ t = s.setVector r (seq.map (BitVec.ofNat 8)) := by
  simp only [putV]
  split
  · simp
    omega
  · simp [eq_comm]
    omega

/-- A sequence that does not fit raises `LengthOverflow` (R13). -/
theorem putV_eq_error {s : State} {r : VReg} {seq : List Nat} {e : Err} :
    putV s r seq = .error e ↔ e = .lengthOverflow ∧ s.vlmax.toNat < seq.length := by
  simp only [putV]
  split
  · simp [eq_comm]
    omega
  · simp
    omega

/-- The entries of a register, taken back to bytes. -/
@[simp] theorem map_ofNat_elems (xs : List Byte) : (elems xs).map (BitVec.ofNat 8) = xs := by
  simp [elems, Function.comp_def]

/-! ### Checks -/

/-- A check answers exactly when its condition holds. -/
theorem ensure_eq_ok {p : Prop} [Decidable p] {e : Err} : ensure p e = .ok () ↔ p := by
  by_cases h : p <;> simp [ensure, h]

/-- A check raises its own error, exactly when its condition does not hold. -/
theorem ensure_eq_error {p : Prop} [Decidable p] {e e' : Err} : ensure p e = .error e' ↔ ¬ p ∧ e' = e := by
  by_cases h : p <;> simp [ensure, h, eq_comm]

/-- A field element operand (section 3 of 40_gf_field.md). -/
theorem fieldElem_eq_ok {s : State} {x : Word} {a : Nat} :
    fieldElem s x = .ok a ↔ (0 ≤ x.toInt ∧ x.toInt ≤ maxElem s) ∧ a = x.toInt.toNat := by
  by_cases h : 0 ≤ x.toInt ∧ x.toInt ≤ maxElem s <;> simp [fieldElem, h, eq_comm]

/-- An operand that is no field element (section 3 of 40_gf_field.md). -/
theorem fieldElem_eq_error {s : State} {x : Word} {e : Err} :
    fieldElem s x = .error e ↔ ¬ (0 ≤ x.toInt ∧ x.toInt ≤ maxElem s) ∧ e = .elementOutOfRange := by
  by_cases h : 0 ≤ x.toInt ∧ x.toInt ≤ maxElem s <;> simp [fieldElem, h, eq_comm]

/-- The parameters from which `GFINIT` constructs a field: the degree, and the polynomial given or, for 0, the build's
default (R101, R102). -/
theorem checkConstruction_eq_ok {table : Vector Nat 7} {m prim : Int} {p : Nat × Nat} :
    checkConstruction table m prim = .ok p ↔
      (Config.mMin ≤ m ∧ m ≤ Config.mMax) ∧ p.1 = m.toNat ∧
      (p.2 : Int) = (if prim = 0 then (defaultPrim table m.toNat : Int) else prim) ∧
      p.2 >>> p.1 = 1 ∧ isPrimitive p.1 p.2 = true := by
  obtain ⟨a, b⟩ := p
  simp only [checkConstruction, bind_eq_ok]
  constructor
  · rintro ⟨_, h, _, h01, _, h2, e⟩
    obtain ⟨h0, h1⟩ := ensure_eq_ok.1 h01
    cases e
    exact ⟨ensure_eq_ok.1 h, rfl, Int.toNat_of_nonneg h0, h1, ensure_eq_ok.1 h2⟩
  · rintro ⟨h, rfl, e, h1, h2⟩
    simp only [← e, Int.toNat_natCast]
    exact ⟨(), ensure_eq_ok.2 h, (), ensure_eq_ok.2 ⟨Int.natCast_nonneg _, h1⟩, (), ensure_eq_ok.2 h2, rfl⟩

/-- A vector operand whose entries are in range (R130, R170). -/
theorem entriesAtMost_eq_ok {top : Nat} {xs : List Byte} {a : List Nat} :
    entriesAtMost top xs = .ok a ↔ (∀ x ∈ xs, x.toNat ≤ top) ∧ a = elems xs := by
  by_cases h : ∀ x ∈ xs, x.toNat ≤ top
  · simp only [entriesAtMost, if_pos h]
    constructor
    · intro e
      exact ⟨h, by cases e; rfl⟩
    · rintro ⟨_, rfl⟩
      rfl
  · simp [entriesAtMost, h]

/-- A vector operand with an entry out of range (R130, R170). -/
theorem entriesAtMost_eq_error {top : Nat} {xs : List Byte} {e : Err} :
    entriesAtMost top xs = .error e ↔ ¬ (∀ x ∈ xs, x.toNat ≤ top) ∧ e = .elementOutOfRange := by
  by_cases h : ∀ x ∈ xs, x.toNat ≤ top
  · simp only [entriesAtMost, if_pos h]
    constructor
    · intro e
      cases e
    · rintro ⟨e, _⟩
      exact absurd h e
  · simp [entriesAtMost, h, eq_comm]

/-- A bit-vector operand of the right length whose entries are bits (R170). -/
theorem bitOperand_eq_ok {len : Nat} {e : Err} {xs : List Byte} {a : List Nat} :
    bitOperand len e xs = .ok a ↔ xs.length = len ∧ (∀ x ∈ xs, x.toNat ≤ 1) ∧ a = elems xs := by
  by_cases h : xs.length = len <;> simp [bitOperand, h, entriesAtMost_eq_ok]

/-- The coordinates of points that an RS command accepts (R232). -/
theorem pointOperands_eq_ok {s : State} {xs ys : List Byte} {p : List Nat × List Nat} :
    pointOperands s xs ys = .ok p ↔
      xs.length = ys.length ∧ ((∀ x ∈ xs, x.toNat < s.rsp.toNat) ∧ (∀ y ∈ ys, y.toNat < s.rsp.toNat)) ∧
        p = (elems xs, elems ys) := by
  by_cases h : xs.length = ys.length
  · by_cases h2 : (∀ x ∈ xs, x.toNat < s.rsp.toNat) ∧ (∀ y ∈ ys, y.toNat < s.rsp.toNat)
    · simp only [pointOperands, if_pos h, if_pos h2]
      constructor
      · intro e
        exact ⟨h, h2, by cases e; rfl⟩
      · rintro ⟨_, _, rfl⟩
        rfl
    · simp only [pointOperands, if_pos h, if_neg h2]
      simp [h, h2]
  · simp [pointOperands, h]

/-- A legal t (R150). -/
theorem capability_eq_ok {s : State} {x : Word} {t : Nat} :
    capability s x = .ok t ↔ (1 ≤ x.toInt ∧ 2 * x.toInt < s.n.toNat) ∧ t = x.toInt.toNat := by
  by_cases h : 1 ≤ x.toInt ∧ 2 * x.toInt < s.n.toNat <;> simp [capability, h, eq_comm]

/-- A t that is not legal (R150). -/
theorem capability_eq_error {s : State} {x : Word} {e : Err} :
    capability s x = .error e ↔ ¬ (1 ≤ x.toInt ∧ 2 * x.toInt < s.n.toNat) ∧ e = .invalidParameters := by
  by_cases h : 1 ≤ x.toInt ∧ 2 * x.toInt < s.n.toNat <;> simp [capability, h, eq_comm]

/-- The errors of a control register read (R263). -/
theorem readCR_error {s : State} {c : Nat} {e : Err} (h : readCR s c = .error e) :
    e = .notConfigured ∨ e = .indexOutOfRange := by
  unfold readCR at h
  split at h <;> first | (split at h <;> simp at h <;> simp [← h]) | (simp at h; done) | (simp at h; simp [← h])

/-- The code of an error is in 1..15 (R301). -/
theorem Err.code_bounds (e : Err) : 1 ≤ e.code ∧ e.code ≤ 15 := by cases e <;> decide

/-- The errors that a division can raise (R135). -/
theorem polyDiv_eq_ok {F : Field} {a b : List Nat} {p : List Nat × List Nat} :
    polyDiv F a b = .ok p ↔ 0 ≤ polyDeg b ∧ p = divideBy F a b (polyDeg b).toNat := by
  by_cases h : polyDeg b < 0
  · simp [polyDiv, h]
  · have : 0 ≤ polyDeg b := by omega
    simp [polyDiv, h, this, eq_comm]

/-- The degree of a polynomial is -1 or the index of an entry (R131). -/
theorem polyDeg_bounds (p : List Nat) : -1 ≤ polyDeg p ∧ polyDeg p < p.length := by
  induction p with
  | nil => simp [polyDeg]
  | cons c cs ih =>
    simp only [polyDeg, List.length_cons]
    push_cast
    split
    · omega
    · split <;> omega

/-- The remainder of a division has as many entries as the divisor's degree (R135). -/
@[simp] theorem divideBy_remainder_length (F : Field) (a b : List Nat) (db : Nat) : (divideBy F a b db).2.length = db := by
  simp [divideBy]

end Sys2Proof.Machine
end

