-- ==== Sys2Proof/Laws/PerInstr.lean ====
section
/-! SUPPORT. Facts about every command as syntax, one lemma for each constructor of `Instr`. -/

namespace Sys2Proof.Laws

/-- The opcode byte of the word of a format R command. -/
theorem opcodeField_packR (op : Nat) (h : op < 256) (f1 f2 f3 f4 f5 f6 : Fin 16) :
    opcodeField (packR op f1 f2 f3 f4 f5 f6) = op := by
  simp only [opcodeField, packR, BitVec.toNat_ofNat]
  omega

/-- The opcode byte of the word of a format I command. -/
theorem opcodeField_packI (op : Nat) (h : op < 256) (f1 : Fin 16) (imm : BitVec 16) :
    opcodeField (packI op f1 imm) = op := by
  have := imm.isLt
  simp only [opcodeField, packI, BitVec.toNat_ofNat]
  omega

/-- The opcode byte of a command's word is the one that R75 gives the command. -/
def OpcodeByte.Statement (i : Instr) : Prop := opcodeField (encode i) = i.opcode

theorem OpcodeByte.nop : OpcodeByte.Statement .nop :=
  opcodeField_packR _ (by decide) _ _ _ _ _ _

theorem OpcodeByte.sli (sd : SReg) (imm : BitVec 16) : OpcodeByte.Statement (.sli sd imm) :=
  opcodeField_packI _ (by decide) _ _

theorem OpcodeByte.smov (sd : SReg) (sa : SReg) : OpcodeByte.Statement (.smov sd sa) :=
  opcodeField_packR _ (by decide) _ _ _ _ _ _

theorem OpcodeByte.rdcr (sd : SReg) (cr : BitVec 16) : OpcodeByte.Statement (.rdcr sd cr) :=
  opcodeField_packI _ (by decide) _ _

theorem OpcodeByte.clrerr : OpcodeByte.Statement .clrerr :=
  opcodeField_packR _ (by decide) _ _ _ _ _ _

theorem OpcodeByte.vzero (vd : VReg) (sa : SReg) : OpcodeByte.Statement (.vzero vd sa) :=
  opcodeField_packR _ (by decide) _ _ _ _ _ _

theorem OpcodeByte.vset (vd : VReg) (sa : SReg) (sb : SReg) : OpcodeByte.Statement (.vset vd sa sb) :=
  opcodeField_packR _ (by decide) _ _ _ _ _ _

theorem OpcodeByte.vget (sd : SReg) (va : VReg) (sb : SReg) : OpcodeByte.Statement (.vget sd va sb) :=
  opcodeField_packR _ (by decide) _ _ _ _ _ _

theorem OpcodeByte.vlen (sd : SReg) (va : VReg) : OpcodeByte.Statement (.vlen sd va) :=
  opcodeField_packR _ (by decide) _ _ _ _ _ _

theorem OpcodeByte.vmov (vd : VReg) (va : VReg) : OpcodeByte.Statement (.vmov vd va) :=
  opcodeField_packR _ (by decide) _ _ _ _ _ _

theorem OpcodeByte.gfinit (sa : SReg) (sb : SReg) : OpcodeByte.Statement (.gfinit sa sb) :=
  opcodeField_packR _ (by decide) _ _ _ _ _ _

theorem OpcodeByte.gfadd (sd : SReg) (sa : SReg) (sb : SReg) : OpcodeByte.Statement (.gfadd sd sa sb) :=
  opcodeField_packR _ (by decide) _ _ _ _ _ _

theorem OpcodeByte.gfmul (sd : SReg) (sa : SReg) (sb : SReg) : OpcodeByte.Statement (.gfmul sd sa sb) :=
  opcodeField_packR _ (by decide) _ _ _ _ _ _

theorem OpcodeByte.gfpow (sd : SReg) (sa : SReg) (sb : SReg) : OpcodeByte.Statement (.gfpow sd sa sb) :=
  opcodeField_packR _ (by decide) _ _ _ _ _ _

theorem OpcodeByte.gfinv (sd : SReg) (sa : SReg) : OpcodeByte.Statement (.gfinv sd sa) :=
  opcodeField_packR _ (by decide) _ _ _ _ _ _

theorem OpcodeByte.ldexp (sd : SReg) (sa : SReg) : OpcodeByte.Statement (.ldexp sd sa) :=
  opcodeField_packR _ (by decide) _ _ _ _ _ _

theorem OpcodeByte.ldlog (sd : SReg) (sa : SReg) : OpcodeByte.Statement (.ldlog sd sa) :=
  opcodeField_packR _ (by decide) _ _ _ _ _ _

theorem OpcodeByte.pdeg (sd : SReg) (va : VReg) : OpcodeByte.Statement (.pdeg sd va) :=
  opcodeField_packR _ (by decide) _ _ _ _ _ _

theorem OpcodeByte.pmul (vd : VReg) (va : VReg) (vb : VReg) : OpcodeByte.Statement (.pmul vd va vb) :=
  opcodeField_packR _ (by decide) _ _ _ _ _ _

theorem OpcodeByte.pdiv (vq : VReg) (vr : VReg) (va : VReg) (vb : VReg) : OpcodeByte.Statement (.pdiv vq vr va vb) :=
  opcodeField_packR _ (by decide) _ _ _ _ _ _

theorem OpcodeByte.pgcd (vd : VReg) (va : VReg) (vb : VReg) : OpcodeByte.Statement (.pgcd vd va vb) :=
  opcodeField_packR _ (by decide) _ _ _ _ _ _

theorem OpcodeByte.plcm (vd : VReg) (va : VReg) (vb : VReg) : OpcodeByte.Statement (.plcm vd va vb) :=
  opcodeField_packR _ (by decide) _ _ _ _ _ _

theorem OpcodeByte.cosets (vd : VReg) (ve : VReg) (sa : SReg) : OpcodeByte.Statement (.cosets vd ve sa) :=
  opcodeField_packR _ (by decide) _ _ _ _ _ _

theorem OpcodeByte.minpoly (vd : VReg) (va : VReg) : OpcodeByte.Statement (.minpoly vd va) :=
  opcodeField_packR _ (by decide) _ _ _ _ _ _

theorem OpcodeByte.genpoly (vd : VReg) (sa : SReg) : OpcodeByte.Statement (.genpoly vd sa) :=
  opcodeField_packR _ (by decide) _ _ _ _ _ _

theorem OpcodeByte.bchinit (sa : SReg) : OpcodeByte.Statement (.bchinit sa) :=
  opcodeField_packR _ (by decide) _ _ _ _ _ _

theorem OpcodeByte.ldgen (vd : VReg) : OpcodeByte.Statement (.ldgen vd) :=
  opcodeField_packR _ (by decide) _ _ _ _ _ _

theorem OpcodeByte.enc (vd : VReg) (va : VReg) : OpcodeByte.Statement (.enc vd va) :=
  opcodeField_packR _ (by decide) _ _ _ _ _ _

theorem OpcodeByte.synd (vd : VReg) (va : VReg) : OpcodeByte.Statement (.synd vd va) :=
  opcodeField_packR _ (by decide) _ _ _ _ _ _

theorem OpcodeByte.peterson (vd : VReg) (sd : SReg) (va : VReg) : OpcodeByte.Statement (.peterson vd sd va) :=
  opcodeField_packR _ (by decide) _ _ _ _ _ _

theorem OpcodeByte.chien (vd : VReg) (sd : SReg) (va : VReg) : OpcodeByte.Statement (.chien vd sd va) :=
  opcodeField_packR _ (by decide) _ _ _ _ _ _

theorem OpcodeByte.dec (vm : VReg) (vc : VReg) (sd : SReg) (va : VReg) : OpcodeByte.Statement (.dec vm vc sd va) :=
  opcodeField_packR _ (by decide) _ _ _ _ _ _

theorem OpcodeByte.decbm (vm : VReg) (vc : VReg) (sd : SReg) (va : VReg) : OpcodeByte.Statement (.decbm vm vc sd va) :=
  opcodeField_packR _ (by decide) _ _ _ _ _ _

theorem OpcodeByte.decmg (vm : VReg) (vc : VReg) (sd : SReg) (va : VReg) : OpcodeByte.Statement (.decmg vm vc sd va) :=
  opcodeField_packR _ (by decide) _ _ _ _ _ _

theorem OpcodeByte.rsinterp (vd : VReg) (vx : VReg) (vy : VReg) : OpcodeByte.Statement (.rsinterp vd vx vy) :=
  opcodeField_packR _ (by decide) _ _ _ _ _ _

theorem OpcodeByte.rsverify (sd : SReg) (vx : VReg) (vy : VReg) (vc : VReg) : OpcodeByte.Statement (.rsverify sd vx vy vc) :=
  opcodeField_packR _ (by decide) _ _ _ _ _ _

theorem OpcodeByte.rsdec (vc : VReg) (sl : SReg) (se : SReg) (vx : VReg) (vy : VReg) (sg : SReg) : OpcodeByte.Statement (.rsdec vc sl se vx vy sg) :=
  opcodeField_packR _ (by decide) _ _ _ _ _ _

theorem OpcodeByte.rsdecmv (vc : VReg) (vl : VReg) (se : SReg) (vx : VReg) (vy : VReg) (sg : SReg) : OpcodeByte.Statement (.rsdecmv vc vl se vx vy sg) :=
  opcodeField_packR _ (by decide) _ _ _ _ _ _

end Sys2Proof.Laws
end

