-- ==== Sys2Proof/Machine/Asm.lean ====
section
/-! DEFINITION. The assembler syntax (R81) and the pseudo-instructions (R82). No step of the machine reads this file: the
engine is given words (R28, R70). A line is a list of characters; what R81 leaves open is in log entry 23. -/

namespace Sys2Proof.Machine

/-- Why a line is not a command (R81). -/
inductive AsmError where
  | unknownMnemonic
  | malformedOperand
  | wrongOperandCount
  | wrongOperandKind
  | immediateOutOfRange
  deriving DecidableEq, Repr

/-- An operand as it is written (R81). -/
inductive AsmOperand where
  | scalar (r : Fin 16)
  | vector (r : Fin 16)
  | decimal (z : Int)
  | hex (n : Nat)
  /-- the name of a control register, by its number -/
  | control (c : Nat)
  deriving DecidableEq, Repr

/-- What a command's operand must be (R76, R81). -/
inductive AsmKind where
  | scalar
  | vector
  /-- the immediate of `SLI` -/
  | signed
  /-- the control register number of `RDCR` -/
  | control
  deriving DecidableEq, Repr

/-! ### The pieces of a line -/

/-- A space or a tab, which separates and surrounds the parts of a line. -/
def isBlank (c : Char) : Bool := c = ' ' || c = '\t'

/-- The text without the blanks around it. -/
def trimBlanks (text : List Char) : List Char := ((text.dropWhile isBlank).reverse.dropWhile isBlank).reverse

/-- The parts between the occurrences of a character, one more than there are occurrences. -/
def splitAtChar (sep : Char) : List Char → List (List Char)
  | [] => [[]]
  | c :: rest =>
    if c = sep then [] :: splitAtChar sep rest
    else
      match splitAtChar sep rest with
      | [] => [[c]]
      | part :: parts => (c :: part) :: parts

/-- The value of a digit of a base up to 16. -/
def digitValue (base : Nat) (c : Char) : Option Nat :=
  let v :=
    if '0' ≤ c ∧ c ≤ '9' then c.toNat - '0'.toNat
    else if 'a' ≤ c ∧ c ≤ 'f' then c.toNat - 'a'.toNat + 10
    else if 'A' ≤ c ∧ c ≤ 'F' then c.toNat - 'A'.toNat + 10
    else 16
  if v < base then some v else none

/-- The number that digits spell, from the value `acc` of the digits before them. -/
def digitsFrom (base : Nat) : Nat → List Char → Option Nat
  | acc, [] => some acc
  | acc, c :: rest =>
    match digitValue base c with
    | none => none
    | some v => digitsFrom base (acc * base + v) rest

/-- The number that one digit or more spell. -/
def number (base : Nat) (text : List Char) : Option Nat := if text = [] then none else digitsFrom base 0 text

/-- A register number as it is written after `s` or `v`: 0 to 15, without leading zeros (R81). -/
def registerNumber (text : List Char) : Option (Fin 16) :=
  match text with
  | [c] => (digitValue 10 c).map fun v => Fin.ofNat 16 v
  | ['1', c] =>
    match digitValue 6 c with
    | none => none
    | some v => some (Fin.ofNat 16 (10 + v))
  | _ => none

/-- The names of the control registers, in the order of their numbers (R29). -/
def controlNames : List (List Char) :=
  [['I', 'D'], ['S', 'T', 'A', 'T', 'E'], ['E', 'R', 'R'], ['E', 'R', 'R', 'S', 'T', 'I', 'C', 'K', 'Y'],
   ['D', 'R', 'E', 'A', 'S', 'O', 'N'], ['M'], ['P', 'R', 'I', 'M'], ['N'], ['T'], ['K'], ['F', 'E', 'A', 'T'],
   ['V', 'L', 'M', 'A', 'X'], ['R', 'S', 'P']]

/-- One operand (R81). -/
def readOperand (text : List Char) : Except AsmError AsmOperand :=
  let made : Option AsmOperand :=
    match text with
    | 's' :: rest => (registerNumber rest).map .scalar
    | 'v' :: rest => (registerNumber rest).map .vector
    | '0' :: 'x' :: rest => (number 16 rest).map .hex
    | '-' :: rest => (number 10 rest).map fun n => .decimal (-(n : Int))
    | _ =>
      match controlNames.idxOf? text with
      | some c => some (.control c)
      | none => (number 10 text).map fun n => .decimal n
  match made with
  | some o => .ok o
  | none => .error .malformedOperand

/-- The bits an operand puts into its field, where it is of the kind its place asks for (R73, R76, R81). -/
def operandBits : AsmKind → AsmOperand → Except AsmError Nat
  | .scalar, .scalar r => .ok r
  | .vector, .vector r => .ok r
  | .signed, .decimal z =>
    if -32768 ≤ z ∧ z ≤ 32767 then .ok (z % 65536).toNat else .error .immediateOutOfRange
  | .signed, .hex n => if n ≤ 0xFFFF then .ok n else .error .immediateOutOfRange
  | .control, .decimal z => if 0 ≤ z ∧ z ≤ 65535 then .ok z.toNat else .error .immediateOutOfRange
  | .control, .hex n => if n ≤ 0xFFFF then .ok n else .error .immediateOutOfRange
  | .control, .control c => .ok c
  | _, _ => .error .wrongOperandKind

/-- Every command's mnemonic, opcode and operand kinds, in the order of R76. -/
def asmTable : List (List Char × Nat × List AsmKind) :=
  [(['N', 'O', 'P'], 0x01, []),
   (['S', 'L', 'I'], 0x02, [.scalar, .signed]),
   (['S', 'M', 'O', 'V'], 0x03, [.scalar, .scalar]),
   (['R', 'D', 'C', 'R'], 0x04, [.scalar, .control]),
   (['C', 'L', 'R', 'E', 'R', 'R'], 0x05, []),
   (['V', 'Z', 'E', 'R', 'O'], 0x08, [.vector, .scalar]),
   (['V', 'S', 'E', 'T'], 0x09, [.vector, .scalar, .scalar]),
   (['V', 'G', 'E', 'T'], 0x0A, [.scalar, .vector, .scalar]),
   (['V', 'L', 'E', 'N'], 0x0B, [.scalar, .vector]),
   (['V', 'M', 'O', 'V'], 0x0C, [.vector, .vector]),
   (['G', 'F', 'I', 'N', 'I', 'T'], 0x10, [.scalar, .scalar]),
   (['G', 'F', 'A', 'D', 'D'], 0x11, [.scalar, .scalar, .scalar]),
   (['G', 'F', 'M', 'U', 'L'], 0x12, [.scalar, .scalar, .scalar]),
   (['G', 'F', 'P', 'O', 'W'], 0x13, [.scalar, .scalar, .scalar]),
   (['G', 'F', 'I', 'N', 'V'], 0x14, [.scalar, .scalar]),
   (['L', 'D', 'E', 'X', 'P'], 0x15, [.scalar, .scalar]),
   (['L', 'D', 'L', 'O', 'G'], 0x16, [.scalar, .scalar]),
   (['P', 'D', 'E', 'G'], 0x20, [.scalar, .vector]),
   (['P', 'M', 'U', 'L'], 0x21, [.vector, .vector, .vector]),
   (['P', 'D', 'I', 'V'], 0x22, [.vector, .vector, .vector, .vector]),
   (['P', 'G', 'C', 'D'], 0x23, [.vector, .vector, .vector]),
   (['P', 'L', 'C', 'M'], 0x24, [.vector, .vector, .vector]),
   (['C', 'O', 'S', 'E', 'T', 'S'], 0x30, [.vector, .vector, .scalar]),
   (['M', 'I', 'N', 'P', 'O', 'L', 'Y'], 0x31, [.vector, .vector]),
   (['G', 'E', 'N', 'P', 'O', 'L', 'Y'], 0x32, [.vector, .scalar]),
   (['B', 'C', 'H', 'I', 'N', 'I', 'T'], 0x33, [.scalar]),
   (['L', 'D', 'G', 'E', 'N'], 0x34, [.vector]),
   (['E', 'N', 'C'], 0x40, [.vector, .vector]),
   (['S', 'Y', 'N', 'D'], 0x41, [.vector, .vector]),
   (['P', 'E', 'T', 'E', 'R', 'S', 'O', 'N'], 0x42, [.vector, .scalar, .vector]),
   (['C', 'H', 'I', 'E', 'N'], 0x43, [.vector, .scalar, .vector]),
   (['D', 'E', 'C'], 0x44, [.vector, .vector, .scalar, .vector]),
   (['D', 'E', 'C', 'B', 'M'], 0x45, [.vector, .vector, .scalar, .vector]),
   (['D', 'E', 'C', 'M', 'G'], 0x46, [.vector, .vector, .scalar, .vector]),
   (['R', 'S', 'I', 'N', 'T', 'E', 'R', 'P'], 0x50, [.vector, .vector, .vector]),
   (['R', 'S', 'V', 'E', 'R', 'I', 'F', 'Y'], 0x51, [.scalar, .vector, .vector, .vector]),
   (['R', 'S', 'D', 'E', 'C'], 0x52, [.vector, .scalar, .scalar, .vector, .vector, .scalar]),
   (['R', 'S', 'D', 'E', 'C', 'M', 'V'], 0x53, [.vector, .vector, .scalar, .vector, .vector, .scalar])]

/-- The bits of operands at their places: operand i in field f_i, an immediate in bits 15:0 (R71, R72). -/
def placeOperands : Nat → List AsmKind → List AsmOperand → Except AsmError Nat
  | _, [], [] => .ok 0
  | lo, k :: ks, o :: os => do
    let bits ← operandBits k o
    let rest ← placeOperands (lo - 4) ks os
    match k with
    | .signed => return bits + rest
    | .control => return bits + rest
    | .scalar => return bits * 2 ^ lo + rest
    | .vector => return bits * 2 ^ lo + rest
  | _, _, _ => .error .wrongOperandCount

/-- The operands written after a mnemonic, separated by commas (R81). -/
def readOperands (text : List Char) : Except AsmError (List AsmOperand) :=
  if trimBlanks text = [] then .ok []
  else (splitAtChar ',' text).mapM fun part => readOperand (trimBlanks part)

/-- The word of one line of assembler text, `none` for a line that holds no command (R81). The word of operands that no
command accepts, such as one register as two destinations, is illegal when it is issued (R77). -/
def assembleLine (line : List Char) : Except AsmError (Option Word) :=
  let text := trimBlanks (line.takeWhile (· ≠ ';'))
  if text = [] then .ok none
  else
    let mnemonic := text.takeWhile fun c => !isBlank c
    match asmTable.find? fun row => row.1 = mnemonic with
    | none => .error .unknownMnemonic
    | some (_, opcode, kinds) => do
      let operands ← readOperands (text.dropWhile fun c => !isBlank c)
      let bits ← placeOperands 20 kinds operands
      return some (BitVec.ofNat 32 (opcode * 2 ^ 24 + bits))

/-! ### Pseudo-instructions (R82) -/

/-- `CONSTRUCT sa, sb, sc` (R82) -/
def expandConstruct (sa sb sc : SReg) : List Instr := [.gfinit sa sb, .bchinit sc]

/-- The commands of `VLIT` that set the entries from index `i` on (R82). -/
def expandEntries (vd : VReg) (st su : SReg) : Nat → List Byte → List Instr
  | _, [] => []
  | i, e :: rest =>
    .sli st (BitVec.ofNat 16 i) :: .sli su (e.setWidth 16) :: .vset vd st su :: expandEntries vd st su (i + 1) rest

/-- `VLIT vd, st, su, [e0, e1, ..., eL-1]` (R82) -/
def expandVlit (vd : VReg) (st su : SReg) (entries : List Byte) : List Instr :=
  .sli st (BitVec.ofNat 16 entries.length) :: .vzero vd st :: expandEntries vd st su 0 entries

/-- `VEMPTY vd, st` (R82) -/
def expandVempty (vd : VReg) (st : SReg) : List Instr := [.sli st 0, .vzero vd st]

/-- The entries of a literal sequence, each 0..255, between brackets (R82). -/
def readEntries (text : List Char) : Except AsmError (List Byte) :=
  match text.reverse with
  | ']' :: inner =>
    if trimBlanks inner = [] then .ok []
    else
      (splitAtChar ',' inner.reverse).mapM fun part =>
        match readOperand (trimBlanks part) with
        | .error e => .error e
        | .ok (.decimal z) =>
          if 0 ≤ z ∧ z ≤ 255 then .ok (BitVec.ofInt 8 z) else .error .immediateOutOfRange
        | .ok (.hex n) => if n ≤ 255 then .ok (BitVec.ofNat 8 n) else .error .immediateOutOfRange
        | .ok _ => .error .wrongOperandKind
  | _ => .error .malformedOperand

/-- The commands of a pseudo-instruction, by its mnemonic and the text after it; `none` for another mnemonic (R82). -/
def readPseudo (mnemonic text : List Char) : Option (Except AsmError (List Instr)) :=
  if mnemonic = ['C', 'O', 'N', 'S', 'T', 'R', 'U', 'C', 'T'] then
    some do
      match ← readOperands text with
      | [.scalar sa, .scalar sb, .scalar sc] => return expandConstruct sa sb sc
      | [_, _, _] => .error .wrongOperandKind
      | _ => .error .wrongOperandCount
  else if mnemonic = ['V', 'E', 'M', 'P', 'T', 'Y'] then
    some do
      match ← readOperands text with
      | [.vector vd, .scalar st] => return expandVempty vd st
      | [_, _] => .error .wrongOperandKind
      | _ => .error .wrongOperandCount
  else if mnemonic = ['V', 'L', 'I', 'T'] then
    some do
      let entries ← readEntries ((text.dropWhile (· ≠ '[')).drop 1)
      match (splitAtChar ',' (text.takeWhile (· ≠ '['))).map trimBlanks with
      | [a, b, c, []] =>
        match ← readOperand a, ← readOperand b, ← readOperand c with
        | .vector vd, .scalar st, .scalar su => return expandVlit vd st su entries
        | _, _, _ => .error .wrongOperandKind
      | _ => .error .wrongOperandCount
  else none

/-- The words of one line, a command or a pseudo-instruction (R81, R82). -/
def assemble (line : List Char) : Except AsmError (List Word) :=
  let text := trimBlanks (line.takeWhile (· ≠ ';'))
  match readPseudo (text.takeWhile fun c => !isBlank c) (trimBlanks (text.dropWhile fun c => !isBlank c)) with
  | some (.ok is) => .ok (is.map encode)
  | some (.error e) => .error e
  | none =>
    match assembleLine line with
    | .ok (some w) => .ok [w]
    | .ok none => .ok []
    | .error e => .error e

end Sys2Proof.Machine
end

