-- ==== Sys2Proof/Tests/Slice0.lean ====
section
/-! SUPPORT. The model's own tests. Expected values are those of spec/95_test_vectors.md and of the examples in the rules;
the section is named before each group. -/

namespace Sys2Proof.Tests

-- One theorem after the other: an evaluation in the kernel waits for those before it, and the waiting threads would be
-- many.
set_option Elab.async false

open Sys2Proof Sys2Proof.Machine

/-! ### Well-formedness (R24, R37, R74): each check refuses an ill-formed term -/

theorem test_wf_accepts : WellFormed 7 (.rsdecmv 15 14 15 13 12 14) = true ∧ WellFormed 0 (.dec 2 3 1 1) = true := by
  decide
theorem test_wf_absent_bm : WellFormed 6 (.decbm 2 3 1 1) = false := by decide
theorem test_wf_absent_meggitt : WellFormed 5 (.decmg 2 3 1 1) = false := by decide
theorem test_wf_absent_rs :
    WellFormed 3 (.rsinterp 3 1 2) = false ∧ WellFormed 3 (.rsverify 1 1 2 3) = false ∧
    WellFormed 3 (.rsdec 3 2 3 1 2 1) = false ∧ WellFormed 3 (.rsdecmv 3 4 3 1 2 1) = false := by decide
theorem test_wf_two_vectors :
    WellFormed 7 (.pdiv 3 3 1 2) = false ∧ WellFormed 7 (.cosets 1 1 1) = false ∧ WellFormed 7 (.dec 2 2 7 1) = false ∧
    WellFormed 7 (.decbm 2 2 7 1) = false ∧ WellFormed 7 (.decmg 2 2 7 1) = false ∧
    WellFormed 7 (.rsdecmv 3 3 3 1 2 1) = false := by decide
theorem test_wf_two_scalars : WellFormed 7 (.rsdec 3 2 2 1 2 1) = false := by decide

/-! ### Decoding (95_test_vectors.md 2.9): every constructor, from its word -/

theorem test_decode_system :
    decode 7 0x01000000 = .ok .nop ∧ decode 7 0x02200013 = .ok (.sli 2 0x13) ∧ decode 7 0x03210000 = .ok (.smov 2 1) ∧
    decode 7 0x04500007 = .ok (.rdcr 5 7) ∧ decode 7 0x05000000 = .ok .clrerr := by decide
theorem test_decode_vectors :
    decode 7 0x08110000 = .ok (.vzero 1 1) ∧ decode 7 0x09123000 = .ok (.vset 1 2 3) ∧
    decode 7 0x0A412000 = .ok (.vget 4 1 2) ∧ decode 7 0x0B310000 = .ok (.vlen 3 1) ∧
    decode 7 0x0C210000 = .ok (.vmov 2 1) := by decide
theorem test_decode_field :
    decode 7 0x10120000 = .ok (.gfinit 1 2) ∧ decode 7 0x11312000 = .ok (.gfadd 3 1 2) ∧
    decode 7 0x12312000 = .ok (.gfmul 3 1 2) ∧ decode 7 0x13312000 = .ok (.gfpow 3 1 2) ∧
    decode 7 0x14210000 = .ok (.gfinv 2 1) ∧ decode 7 0x15210000 = .ok (.ldexp 2 1) ∧
    decode 7 0x16210000 = .ok (.ldlog 2 1) := by decide
theorem test_decode_polynomials :
    decode 7 0x20110000 = .ok (.pdeg 1 1) ∧ decode 7 0x21312000 = .ok (.pmul 3 1 2) ∧
    decode 7 0x22341200 = .ok (.pdiv 3 4 1 2) ∧ decode 7 0x23312000 = .ok (.pgcd 3 1 2) ∧
    decode 7 0x24312000 = .ok (.plcm 3 1 2) := by decide
theorem test_decode_generator :
    decode 7 0x30121000 = .ok (.cosets 1 2 1) ∧ decode 7 0x31210000 = .ok (.minpoly 2 1) ∧
    decode 7 0x32110000 = .ok (.genpoly 1 1) ∧ decode 7 0x33100000 = .ok (.bchinit 1) ∧
    decode 7 0x34100000 = .ok (.ldgen 1) := by decide
theorem test_decode_codec :
    decode 7 0x40210000 = .ok (.enc 2 1) ∧ decode 7 0x41210000 = .ok (.synd 2 1) ∧
    decode 7 0x42312000 = .ok (.peterson 3 1 2) ∧ decode 7 0x43423000 = .ok (.chien 4 2 3) ∧
    decode 7 0x44231100 = .ok (.dec 2 3 1 1) ∧ decode 7 0x45231100 = .ok (.decbm 2 3 1 1) ∧
    decode 7 0x46231100 = .ok (.decmg 2 3 1 1) := by decide
theorem test_decode_rs :
    decode 7 0x50312000 = .ok (.rsinterp 3 1 2) ∧ decode 7 0x51112300 = .ok (.rsverify 1 1 2 3) ∧
    decode 7 0x52323121 = .ok (.rsdec 3 2 3 1 2 1) ∧ decode 7 0x53343121 = .ok (.rsdecmv 3 4 3 1 2 1) ∧
    decode 7 0x53FEFDCE = .ok (.rsdecmv 15 14 15 13 12 14) := by decide
theorem test_decode_reserved :
    decode 7 0x00000000 = .error .reservedOpcode ∧ decode 7 0xFFFFFFFF = .error .reservedOpcode ∧
    decode 7 0x54000000 = .error .reservedOpcode ∧ decode 7 0x06000000 = .error .reservedOpcode := by decide
theorem test_decode_unused_field :
    decode 7 0x01000001 = .error .unusedFieldNonzero ∧ decode 7 0x05100000 = .error .unusedFieldNonzero ∧
    decode 7 0x02110004 = .error .unusedFieldNonzero ∧ decode 7 0x11312100 = .error .unusedFieldNonzero ∧
    decode 7 0x03210001 = .error .unusedFieldNonzero := by decide
theorem test_decode_same_destination :
    decode 7 0x22331200 = .error .sameDestination ∧ decode 7 0x30111000 = .error .sameDestination ∧
    decode 7 0x44227100 = .error .sameDestination ∧ decode 7 0x52322121 = .error .sameDestination ∧
    decode 7 0x53333121 = .error .sameDestination := by decide
theorem test_decode_absent_unit :
    decode 6 0x45231100 = .error .absentUnit ∧ decode 5 0x46231100 = .error .absentUnit ∧
    decode 3 0x50312000 = .error .absentUnit := by decide
theorem test_encode_last : encode (.rsdecmv 15 14 15 13 12 14) = 0x53FEFDCE ∧ encode (.sli 1 0xFFFF) = 0x0210FFFF := by
  decide
theorem test_serialised : wordToBytes 0x0210FFFF = [0xFF, 0xFF, 0x10, 0x02] ∧
    decodeBytes 7 [0x13, 0x00, 0x20, 0x02] = .ok (.sli 2 0x13) ∧ decodeBytes 7 [0x01] = .error .notOneWord := by decide

/-! ### Assembler (R81, R82; 95_test_vectors.md 2.9 and P5) -/

theorem test_asm_sli : assemble ['S', 'L', 'I', ' ', 's', '1', ',', ' ', '-', '1'] = .ok [0x0210FFFF] := by decide
theorem test_asm_rdcr : assemble ['R', 'D', 'C', 'R', ' ', 's', '5', ',', 'N', ';', 'x'] = .ok [0x04500007] := by decide
theorem test_asm_vempty :
    assemble ['V', 'E', 'M', 'P', 'T', 'Y', ' ', 'v', '1', ',', 's', '1', '4'] = .ok [0x02E00000, 0x081E0000] := by decide
theorem test_vlit : (expandVlit 2 14 15 [3, 2]).map encode =
    [0x02E00002, 0x082E0000, 0x02E00000, 0x02F00003, 0x092EF000, 0x02E00001, 0x02F00002, 0x092EF000] := by decide
theorem test_construct : (expandConstruct 1 2 3).map encode = [0x10120000, 0x33300000] := by decide

/-! ### Small states -/

/-- A state with some scalar registers written. -/
def withS (s : State) (l : List (SReg × Word)) : State := l.foldl (fun s p => s.setScalar p.1 p.2) s

/-- A state with some vector registers written. -/
def withV (s : State) (l : List (VReg × List Byte)) : State := l.foldl (fun s p => s.setVector p.1 p.2) s

/-- GF(2^4), prim 19, no codec. -/
def gf16 : State :=
  { State.reset with state := 1, m := 4, prim := 19, n := 15, exp := (gfBuild 4 19).1, log := (gfBuild 4 19).2 }

/-- BCH(15,7,2) over GF(2^4), prim 19. -/
def bch : State := { gf16 with state := 2, t := 2, k := 7, gen := Memory.ofSeq [1, 0, 0, 0, 1, 0, 1, 1, 1] }

/-- The state that a command ends in. -/
def after (a : Answer) : State :=
  match a with
  | .next t => t
  | .fault _ => State.reset
  | .refused _ => State.reset

/-- The codeword of BCH(15,7,2) for the message `[1,0,1,1,0,0,1]` (95_test_vectors.md 2.4). -/
def cw : List Byte := [0, 1, 0, 0, 0, 0, 1, 1, 1, 0, 1, 1, 0, 0, 1]

/-- The same with bits 2 and 11 flipped (95_test_vectors.md 2.5). -/
def cw2 : List Byte := [0, 1, 1, 0, 0, 0, 1, 1, 1, 0, 1, 0, 0, 0, 1]

/-- The zero word with bits 0, 1, 4 set: no solution (95_test_vectors.md 2.5). -/
def z014 : List Byte := [1, 1, 0, 0, 1, 0, 0, 0, 0, 0, 0, 0, 0, 0, 0]

/-- The zero word with bits 0, 1, 3 set: location mismatch (95_test_vectors.md 2.5). -/
def z013 : List Byte := [1, 1, 0, 1, 0, 0, 0, 0, 0, 0, 0, 0, 0, 0, 0]

/-- The points 0..5 and their y values on 5 + 7x + 3x^2 + 2x^3 over GF(31) (95_test_vectors.md 1.2). -/
def px : List Byte := [0, 1, 2, 3, 4, 5]
def py : List Byte := [5, 17, 16, 14, 23, 24]

/-! ### One command on a small state -/

theorem test_nop : (after (execNop { State.reset with err := 8, errsticky := 0x100 })).err = 0 ∧
    (after (execNop { State.reset with err := 8, errsticky := 0x100 })).errsticky = 0x100 := by decide
theorem test_sli : (after (execSli 1 0x8000 State.reset)).scalars[1] = ⟨true, 0xFFFF8000⟩ := by decide
theorem test_smov : (after (execSmov 2 1 (withS State.reset [(1, 0xFFFFFFFF)]))).scalars[2] = ⟨true, 0xFFFFFFFF⟩ := by
  decide
theorem test_smov_unwritten : (after (execSmov 4 3 State.reset)).err = 8 ∧
    (after (execSmov 4 3 State.reset)).scalars[4].valid = false := by decide
theorem test_rdcr_err : (after (execRdcr 1 2 { State.reset with err := 7 })).scalars[1] = ⟨true, 7⟩ ∧
    (after (execRdcr 1 2 { State.reset with err := 7 })).err = 0 := by decide
theorem test_rdcr_range : (after (execRdcr 11 13 State.reset)).err = 9 ∧ (after (execRdcr 5 7 State.reset)).err = 7 := by
  decide
theorem test_clrerr : (after (execClrerr { State.reset with errsticky := 0x1C0 })).errsticky = 0 := by decide
theorem test_vzero : (after (execVzero 1 1 (withS State.reset [(1, 4)]))).vectors[1] = ⟨true, [0, 0, 0, 0]⟩ := by decide
theorem test_vzero_range : (after (execVzero 1 1 (withS State.reset [(1, 513)]))).err = 11 ∧
    (after (execVzero 1 1 (withS State.reset [(1, 0xFFFFFFFF)]))).err = 9 := by decide
theorem test_vset : (after (execVset 1 2 3 (withV (withS State.reset [(2, 1), (3, 7)]) [(1, [0, 0, 0, 0])]))).vectors[1] =
    ⟨true, [0, 7, 0, 0]⟩ := by decide
theorem test_vset_value :
    (after (execVset 1 2 3 (withV (withS State.reset [(2, 1), (3, 256)]) [(1, [0, 0, 0, 0])]))).err = 10 := by decide
theorem test_vget : (after (execVget 4 1 2 (withV (withS State.reset [(2, 1)]) [(1, [0, 200, 0, 0])]))).scalars[4] =
    ⟨true, 200⟩ := by decide
theorem test_vget_range :
    (after (execVget 4 1 2 (withV (withS State.reset [(2, 4)]) [(1, [0, 1, 0, 0])]))).err = 9 := by decide
theorem test_vlen : (after (execVlen 3 1 (withV State.reset [(1, [0, 1, 0, 0])]))).scalars[3] = ⟨true, 4⟩ := by decide
theorem test_vmov : (after (execVmov 2 1 (withV State.reset [(1, [0, 1, 0, 0])]))).vectors[2] = ⟨true, [0, 1, 0, 0]⟩ := by
  decide

/-- The example of R103: GF(2^4) with the default polynomial. -/
theorem test_gfinit : (after (execGfinit 1 2 (withS State.reset [(1, 4), (2, 0)]))).exp.map (fun p => p.2.toNat) =
      [1, 2, 4, 8, 3, 6, 12, 11, 5, 10, 7, 14, 15, 13, 9] ∧
    (after (execGfinit 1 2 (withS State.reset [(1, 4), (2, 0)]))).log.map (fun p => p.2.toInt) =
      [-1, 0, 1, 4, 2, 8, 5, 10, 3, 14, 9, 7, 6, 13, 11, 12] := by decide +kernel
/-- x^4+x^3+x^2+x+1 is not primitive; the old field is gone (R103 d). R101, N3: with another table of
defaults in the build, 13 being the other primitive polynomial of degree 3. -/
theorem test_gfinit_parameters : (after (execGfinit 1 2 (withS gf16 [(1, 4), (2, 31)]))).err = 2 ∧
    (after (execGfinit 1 2 (withS gf16 [(1, 4), (2, 31)]))).state = 0 ∧
    (after (execGfinit 1 2 (withS { State.reset with defaultPrims := #v[7, 13, 19, 37, 67, 137, 285] }
      [(1, 3), (2, 0)]))).prim = 13 := by decide +kernel
theorem test_gfadd : (after (execGfadd 3 1 2 (withS gf16 [(1, 6), (2, 7)]))).scalars[3] = ⟨true, 1⟩ := by decide +kernel
theorem test_gfmul : (after (execGfmul 3 1 2 (withS gf16 [(1, 12), (2, 13)]))).scalars[3] = ⟨true, 3⟩ := by
  decide +kernel
theorem test_gfmul_range : (after (execGfmul 3 1 2 (withS gf16 [(1, 16), (2, 13)]))).err = 10 := by decide +kernel
/-- The product of the exponents needs 35 bits (95_test_vectors.md 2.1). -/
theorem test_gfpow_wide : (after (execGfpow 3 1 2 (withS gf16 [(1, 15), (2, 2147483647)]))).scalars[3] = ⟨true, 10⟩ := by
  decide +kernel
theorem test_gfpow_negative : (after (execGfpow 3 1 2 (withS gf16 [(1, 2), (2, 0xFFFFFFFF)]))).scalars[3] = ⟨true, 9⟩ := by
  decide +kernel
theorem test_gfinv : (after (execGfinv 2 1 (withS gf16 [(1, 1)]))).scalars[2] = ⟨true, 1⟩ := by decide +kernel
theorem test_gfinv_zero : (after (execGfinv 0 12 (withS gf16 [(12, 0)]))).err = 12 := by decide +kernel
theorem test_ldexp : (after (execLdexp 2 1 (withS gf16 [(1, 14)]))).scalars[2] = ⟨true, 9⟩ := by decide +kernel
theorem test_ldexp_range : (after (execLdexp 2 1 (withS gf16 [(1, 15)]))).err = 9 := by decide +kernel
theorem test_ldlog : (after (execLdlog 2 1 (withS gf16 [(1, 0)]))).scalars[2] = ⟨true, 0xFFFFFFFF⟩ := by decide +kernel
theorem test_pdeg : (after (execPdeg 1 1 (withV State.reset [(1, [0, 1, 0, 0])]))).scalars[1] = ⟨true, 1⟩ := by decide
theorem test_pmul : (after (execPmul 3 1 2 (withV gf16 [(1, [4, 9]), (2, [3, 2])]))).vectors[3] = ⟨true, [12, 0, 1]⟩ := by
  decide +kernel
theorem test_pmul_zeros : (after (execPmul 3 1 2 (withV gf16 [(1, [1, 0]), (2, [1, 1])]))).vectors[3] =
    ⟨true, [1, 1, 0]⟩ := by decide +kernel
/-- The dividend register is the quotient register, and the divisor is not monic (R136). -/
theorem test_pdiv : (after (execPdiv 1 4 1 2 (withV gf16 [(1, [1, 0, 1]), (2, [3, 2])]))).vectors[1] = ⟨true, [4, 9]⟩ ∧
    (after (execPdiv 1 4 1 2 (withV gf16 [(1, [1, 0, 1]), (2, [3, 2])]))).vectors[4] = ⟨true, [13]⟩ := by decide +kernel
theorem test_pdiv_zero : (after (execPdiv 3 4 1 2 (withV gf16 [(1, [1, 1]), (2, [0, 0])]))).err = 5 := by decide +kernel
theorem test_pgcd : (after (execPgcd 3 1 2 (withV gf16 [(1, [1, 0, 1]), (2, [3, 2])]))).vectors[3] = ⟨true, [13]⟩ := by
  decide +kernel
theorem test_plcm : (after (execPlcm 3 1 2 (withV gf16 [(1, [1, 0, 1]), (2, [3, 2])]))).vectors[3] =
    ⟨true, [12, 8, 12, 8]⟩ := by decide +kernel
theorem test_cosets : (after (execCosets 1 2 1 (withS gf16 [(1, 3)]))).vectors[1] =
      ⟨true, [1, 2, 4, 8, 3, 6, 12, 9, 5, 10]⟩ ∧
    (after (execCosets 1 2 1 (withS gf16 [(1, 3)]))).vectors[2] = ⟨true, [4, 4, 2]⟩ := by decide +kernel
theorem test_cosets_range : (after (execCosets 1 2 1 (withS gf16 [(1, 8)]))).err = 2 := by decide +kernel
theorem test_minpoly : (after (execMinpoly 2 1 (withV gf16 [(1, [1, 2])]))).vectors[2] = ⟨true, [8, 6, 1]⟩ := by
  decide +kernel
theorem test_minpoly_coset : (after (execMinpoly 2 1 (withV gf16 [(1, [7, 14, 13, 11])]))).vectors[2] =
    ⟨true, [1, 0, 0, 1, 1]⟩ := by decide +kernel
theorem test_genpoly : (after (execGenpoly 1 1 (withS gf16 [(1, 3)]))).vectors[1] =
    ⟨true, [1, 1, 1, 0, 1, 1, 0, 0, 1, 0, 1]⟩ := by decide +kernel
theorem test_bchinit : (after (execBchinit 1 (withS gf16 [(1, 2)]))).gen.map (fun p => p.2.toNat) =
      [1, 0, 0, 0, 1, 0, 1, 1, 1] ∧
    (after (execBchinit 1 (withS gf16 [(1, 2)]))).k = 7 ∧ (after (execBchinit 1 (withS gf16 [(1, 2)]))).state = 2 := by
  decide +kernel
theorem test_bchinit_range : (after (execBchinit 1 (withS bch [(1, 8)]))).err = 2 ∧
    (after (execBchinit 1 (withS bch [(1, 8)]))).state = 1 := by decide +kernel
theorem test_ldgen : (after (execLdgen 1 bch)).vectors[1] = ⟨true, [1, 0, 0, 0, 1, 0, 1, 1, 1]⟩ := by decide +kernel
theorem test_enc : (after (execEnc 2 1 (withV bch [(1, [1, 0, 1, 1, 0, 0, 1])]))).vectors[2] = ⟨true, cw⟩ := by
  decide +kernel
/-- The length is checked before the bits (95_test_vectors.md 2.4). -/
theorem test_enc_length : (after (execEnc 2 1 (withV bch [(1, [1, 0, 2, 1, 0, 0])]))).err = 3 := by decide +kernel
theorem test_synd : (after (execSynd 2 1 (withV bch [(1, cw2)]))).vectors[2] = ⟨true, [10, 8, 4, 12]⟩ := by decide +kernel
theorem test_peterson : (after (execPeterson 3 1 2 (withV bch [(2, [10, 8, 4, 12])]))).vectors[3] = ⟨true, [1, 10, 13]⟩ ∧
    (after (execPeterson 3 1 2 (withV bch [(2, [10, 8, 4, 12])]))).scalars[1] = ⟨true, 2⟩ := by decide +kernel
theorem test_peterson_none : (after (execPeterson 3 1 2 (withV bch [(2, [0, 0, 6, 0])]))).scalars[1] =
    ⟨true, 0xFFFFFFFF⟩ := by decide +kernel
theorem test_chien : (after (execChien 4 2 3 (withV bch [(3, [1, 10, 13])]))).vectors[4] = ⟨true, [2, 11]⟩ := by
  decide +kernel
theorem test_dec : (after (execDec 2 3 1 1 (withV bch [(1, cw2)]))).vectors[2] = ⟨true, [1, 0, 1, 1, 0, 0, 1]⟩ ∧
    (after (execDec 2 3 1 1 (withV bch [(1, cw2)]))).scalars[1] = ⟨true, 2⟩ := by decide +kernel
theorem test_dec_mismatch : (after (execDec 2 3 1 1 (withV bch [(1, z013)]))).dreason = 4 ∧
    (after (execDec 2 3 1 1 (withV bch [(1, z013)]))).vectors[3] = ⟨true, z013⟩ := by decide +kernel
theorem test_decbm : (after (execDecbm 2 3 1 1 (withV bch [(1, cw2)]))).vectors[3] = ⟨true, cw⟩ := by decide +kernel
theorem test_decbm_none : (after (execDecbm 2 3 1 1 (withV bch [(1, z014)]))).dreason = 3 ∧
    (after (execDecbm 2 3 1 1 (withV bch [(1, z014)]))).scalars[1] = ⟨true, 0xFFFFFFFF⟩ := by decide +kernel
theorem test_decmg : (after (execDecmg 2 3 1 1 (withV bch [(1, cw2)]))).vectors[3] = ⟨true, cw⟩ ∧
    (after (execDecmg 2 3 1 1 (withV bch [(1, cw2)]))).scalars[1] = ⟨true, 2⟩ := by decide +kernel
theorem test_rsinterp : (after (execRsinterp 3 1 2 (withV State.reset [(1, px), (2, py)]))).vectors[3] =
    ⟨true, [5, 7, 3, 2, 0, 0]⟩ := by decide +kernel
theorem test_rsinterp_duplicate : (after (execRsinterp 3 1 2 (withV State.reset [(1, [1, 1]), (2, [3, 3])]))).err = 14 := by
  decide +kernel
theorem test_rsverify : (after (execRsverify 1 1 2 3 (withV State.reset [(1, px), (2, py), (3, [5, 7, 3, 2])]))).scalars[1] =
    ⟨true, 1⟩ := by decide +kernel
theorem test_rsverify_misfit :
    (after (execRsverify 1 1 2 3 (withV State.reset [(1, px), (2, py.set 4 0), (3, [5, 7, 3, 2])]))).scalars[1] =
    ⟨true, 0⟩ := by decide +kernel
theorem test_rsdec :
    (after (execRsdec 3 2 3 1 2 1 (withS (withV State.reset [(1, px), (2, py.set 4 0)]) [(1, 3)]))).vectors[3] =
      ⟨true, [5, 7, 3, 2]⟩ ∧
    (after (execRsdec 3 2 3 1 2 1 (withS (withV State.reset [(1, px), (2, py.set 4 0)]) [(1, 3)]))).scalars[2] =
      ⟨true, 4⟩ := by decide +kernel
/-- The locator is the index before deduplication (R240). -/
theorem test_rsdec_duplicate :
    (after (execRsdec 3 2 3 1 2 1 (withS (withV State.reset [(1, [0, 1, 1, 2, 3, 4, 5]), (2, [5, 9, 17, 16, 14, 23, 24])])
      [(1, 3)]))).scalars[2] = ⟨true, 1⟩ := by decide +kernel
theorem test_rsdecmv :
    (after (execRsdecmv 3 4 3 1 2 1 (withS (withV State.reset [(1, px), (2, (py.set 1 0).set 4 0)]) [(1, 3)]))).vectors[3] =
      ⟨true, [5, 18, 30, 9]⟩ ∧
    (after (execRsdecmv 3 4 3 1 2 1 (withS (withV State.reset [(1, px), (2, (py.set 1 0).set 4 0)]) [(1, 3)]))).vectors[4] =
      ⟨true, [4, 5]⟩ := by decide +kernel

/-! ### The host port -/

theorem test_step_issue : (after (step { State.reset with port := [.issue 0x02100004] })).scalars[1] = ⟨true, 4⟩ ∧
    (after (step { State.reset with port := [.issue 0x02100004] })).reply = .err 0 := by decide
theorem test_step_illegal : (after (step { State.reset with port := [.issue 0] })).reply = .err 6 ∧
    (after (step { State.reset with port := [.issue 0] })).errsticky = 0x40 := by decide
theorem test_host_write_refused :
    (after (step { State.reset with port := [.writeV 1 [1, 256]] })).vectors[1].valid = false := by decide
theorem test_host_read_cr :
    (after (step { State.reset with port := [.readCR 0] })).reply = .control (some 0x4E524301) ∧
    (after (step { State.reset with port := [.readCR 7] })).reply = .control none := by decide
/-- R37: the constants of the build outlive a reset. -/
theorem test_reset_constants : (after (step { State.reset with feat := 1, err := 7, port := [.reset] })).feat = 1 ∧
    (after (step { State.reset with feat := 1, err := 7, port := [.reset] })).err = 0 := by decide
theorem test_fetch_word : (State.reset.withFetchWord 32 0x02100004).port = [.issue 0x02100004] := by decide

/-! ### The states of the witnesses have the invariant -/

theorem gf16_accepted : accepted 4 19 := by
  unfold accepted orderIsN
  decide +kernel

theorem inv_gf16 : Inv gf16 := by
  refine ⟨by decide, by decide, by decide, by decide, by decide, by decide, ?_, by decide, by decide, ?_, ?_⟩
  · exact ⟨by decide +kernel, by decide +kernel, by decide⟩
  · exact fun _ => ⟨gf16_accepted, by decide, by decide +kernel⟩
  · exact fun h => absurd h (by decide)

theorem inv_bch : Inv bch := by
  refine ⟨by decide, by decide, by decide, by decide, by decide, by decide, ?_, by decide, by decide, ?_, ?_⟩
  · exact ⟨by decide +kernel, by decide +kernel, by decide +kernel⟩
  · exact fun _ => ⟨gf16_accepted, by decide, by decide +kernel⟩
  · exact fun _ => ⟨by decide, by decide, [1, 0, 0, 0, 1, 0, 1, 1, 1], by decide +kernel, rfl, by decide +kernel⟩

/-- BCH(7,4,1) over GF(2^3), prim 11. -/
def bch74 : State :=
  { State.reset with
    state := 2, m := 3, prim := 11, n := 7, exp := (gfBuild 3 11).1, log := (gfBuild 3 11).2, t := 1, k := 4,
    gen := Memory.ofSeq [1, 1, 0, 1] }

theorem inv_bch74 : Inv bch74 := by
  refine ⟨by decide, by decide, by decide, by decide, by decide, by decide, ?_, by decide, by decide, ?_, ?_⟩
  · exact ⟨by decide +kernel, by decide +kernel, by decide +kernel⟩
  · exact fun _ => ⟨by unfold accepted orderIsN; decide +kernel, by decide, by decide +kernel⟩
  · exact fun _ => ⟨by decide, by decide, [1, 1, 0, 1], by decide +kernel, rfl, by decide +kernel⟩

theorem inv_reset : Inv State.reset := by
  refine ⟨by decide, by decide, by decide, by decide, by decide, by decide, by decide, by decide, by decide, ?_, ?_⟩
  · exact fun h => absurd h (by decide)
  · exact fun h => absurd h (by decide)

theorem inv_withS {s : State} (h : Inv s) (l : List (SReg × Word)) : Inv (withS s l) := by
  induction l generalizing s with
  | nil => exact h
  | cons p l ih => exact ih (inv_setScalar h p.1 p.2)

theorem inv_withV {s : State} (h : Inv s) (l : List (VReg × List Byte)) (hl : ∀ p ∈ l, p.2.length ≤ 512) :
    Inv (withV s l) := by
  induction l generalizing s with
  | nil => exact h
  | cons p l ih =>
    exact ih (inv_setVector h p.1 (hl p List.mem_cons_self)) fun q hq => hl q (List.mem_cons_of_mem _ hq)

theorem shape_bch : genShape bch := by
  unfold genShape
  decide +kernel

end Sys2Proof.Tests
end

