-- ==== Sys2Proof/Tests/Witnesses.lean ====
section
/-! SUPPORT. For each obligation that has hypotheses, a concrete state and operands that meet all of them, at the boundary
values of its clauses. -/

namespace Sys2Proof.Tests

-- One theorem after the other: an evaluation in the kernel waits for those before it, and the waiting threads would be
-- many.
set_option Elab.async false

open Sys2Proof Sys2Proof.Machine

/-! ### Encoding, steps and errors -/

theorem witness_DecodeInvertsEncode :
    WellFormed 7 (.rsdecmv 15 14 15 13 12 14) = true ∧ WellFormed 0 .nop = true := by decide

theorem witness_EncodeInvertsDecode : decode 7 0x53FEFDCE = .ok (.rsdecmv 15 14 15 13 12 14) := by decide

/-- A reserved opcode, an unused field, an absent unit and a destination named twice. -/
theorem witness_IllegalWordOnlyRaises :
    ({ bch with port := [.issue 0] } : State).port = .issue 0 :: [] ∧ ¬ spellsCommand 7 0x54000000 ∧
    ¬ spellsCommand 7 0x01000001 ∧ ¬ spellsCommand 6 0x45231100 ∧ ¬ spellsCommand 7 0x22331200 := by
  unfold spellsCommand absentUnitWord twiceNamedWord
  decide

theorem witness_StepRunsTheDecodedCommand : ∃ t,
    ({ State.reset with port := [.issue 0x02100004] } : State).port = .issue 0x02100004 :: [] ∧
    decode State.reset.feat 0x02100004 = .ok (.sli 1 4) ∧
    exec (.sli 1 4) ({ State.reset with port := [] } : State) = .next t := ⟨_, rfl, rfl, rfl⟩

/-- An error, an aborted construction of each kind, and a command that raises nothing. -/
theorem witness_ErrorsChangeOnlyTheStatus :
    (∃ t, exec (.smov 4 3) State.reset = .next t ∧ t.err ≠ 0) ∧
    (∃ t, exec (.gfinit 1 2) (withS gf16 [(1, 9), (2, 0)]) = .next t ∧ t.err ≠ 0) ∧
    (∃ t, exec (.bchinit 1) (withS bch [(1, 8)]) = .next t ∧ t.err ≠ 0) ∧
    (∃ t, exec .nop State.reset = .next t ∧ t.err = 0) :=
  ⟨⟨_, rfl, by decide⟩, ⟨_, rfl, by decide +kernel⟩, ⟨_, rfl, by decide +kernel⟩, ⟨_, rfl, by decide⟩⟩

theorem witness_NotConfiguredComesFirst :
    WellFormed State.reset.feat (.gfadd 3 1 2) = true ∧ State.reset.state.toNat < (Instr.gfadd 3 1 2).leastState ∧
    WellFormed gf16.feat (.enc 2 1) = true ∧ gf16.state.toNat < (Instr.enc 2 1).leastState := by decide

theorem witness_UnwrittenRegisters :
    (WellFormed State.reset.feat (.smov 4 3) = true ∧ (Instr.smov 4 3).leastState ≤ State.reset.state.toNat ∧
      (∃ r ∈ (Instr.smov 4 3).scalarSources, unwrittenS State.reset r)) ∧
    (WellFormed bch.feat (.enc 2 1) = true ∧ (Instr.enc 2 1).leastState ≤ bch.state.toNat ∧
      (∃ r ∈ (Instr.enc 2 1).vectorSources, unwrittenV bch r)) ∧
    (∃ t, exec (.sli 1 4) State.reset = .next t ∧ t.err = 0) ∧
    (∃ t, step { State.reset with port := [.writeS 15 0xFFFFFFFF] } = .next t) ∧
    (∃ t, step { State.reset with port := [.writeV 15 ((List.replicate 512 255#8).map fun x => (x.toNat : Int))] } =
      .next t) ∧
    (State.reset.port.head? ≠ some .reset ∧ (withS State.reset [(1, 0)]).scalars[1].valid = true ∧
      (withV State.reset [(1, [])]).vectors[1].valid = true) := by
  refine ⟨by decide, by decide, ⟨_, rfl, by decide⟩, ⟨_, rfl⟩, ⟨_, rfl⟩, by decide⟩

theorem witness_AbsentUnitIsIllegal :
    WellFormed 6 (.decbm 2 3 1 1) = false ∧ WellFormed 7 (.pdiv 3 3 1 2) = false ∧
    (Instr.decbm 2 3 1 1).unitPresent ({ State.reset with feat := 6 } : State).feat = false ∧
    ({ State.reset with port := [.issue (encode (.decbm 2 3 1 1))] } : State).port =
      .issue (encode (.decbm 2 3 1 1)) :: [] ∧
    (∃ t, exec .nop State.reset = .next t) ∧ (∃ t, step { State.reset with feat := 6, port := [.reset] } = .next t) :=
  ⟨by decide, by decide, by decide, rfl, ⟨_, rfl⟩, ⟨_, rfl⟩⟩

theorem witness_OnlyDestinationsChange : ∃ t, exec (.gfmul 1 1 1) (withS gf16 [(1, 3)]) = .next t := ⟨_, rfl⟩

theorem witness_OnlyConstructorsWriteTables :
    (∃ t, step { bch with port := [.issue 0x02100004] } = .next t) ∧
    ({ bch with port := [.issue 0x02100004] } : State).port.head? ≠ some .reset ∧
    (∀ w, ({ bch with port := [.issue 0x02100004] } : State).port.head? = some (.issue w) →
      (∀ sa sb, decode bch.feat w ≠ .ok (.gfinit sa sb)) ∧ (∀ sa, decode bch.feat w ≠ .ok (.bchinit sa))) := by
  refine ⟨⟨_, rfl⟩, by decide, ?_⟩
  intro w h
  have e : w = 0x02100004 := by simpa using h.symm
  have d : decode bch.feat w = .ok (.sli 1 4) := by rw [e]; decide
  refine ⟨fun sa sb h => ?_, fun sa h => ?_⟩
  · rw [d] at h
    cases h
  · rw [d] at h
    cases h

theorem witness_StatusNeverInfluencesResults :
    (∀ sd cr, Instr.rdcr 1 5 = .rdcr sd cr → cr ≠ 2 ∧ cr ≠ 3 ∧ cr ≠ 4) ∧
    (∃ t t', exec (.rdcr 1 5) gf16 = .next t ∧
      exec (.rdcr 1 5) { gf16 with err := 9, errsticky := 0x200, dreason := 1 } = .next t') := by
  refine ⟨?_, _, _, rfl, rfl⟩
  intro sd cr h
  cases h
  decide

theorem witness_StepKeepsTheInvariant :
    Inv ({ bch with port := [.issue 0x34100000], reply := .nothing, freeIdx := 0 } : State) ∧
    (∃ t, step { bch with port := [.issue 0x34100000], reply := .nothing, freeIdx := 0 } = .next t) :=
  ⟨inv_port inv_bch _ _ _, _, rfl⟩

theorem witness_ResetState :
    ({ bch with port := [.reset, .readCR 1] } : State).port = .reset :: [.readCR 1] ∧ bch.ident = State.reset.ident ∧
    bch.feat = State.reset.feat ∧ bch.vlmax = State.reset.vlmax ∧ bch.rsp = State.reset.rsp ∧
    bch.defaultPrims = State.reset.defaultPrims := by decide

/-! ### The host port -/

/-- The longest sequence that is written, one entry more, and a value just outside 0..255 on each side. -/
theorem witness_HostWritesRegisters :
    ((List.replicate 512 (255 : Int)).length ≤ State.reset.vlmax.toNat ∧
      ∀ x ∈ List.replicate 512 (255 : Int), 0 ≤ x ∧ x ≤ 255) ∧
    ¬ ((List.replicate 513 (0 : Int)).length ≤ State.reset.vlmax.toNat ∧
      ∀ x ∈ List.replicate 513 (0 : Int), 0 ≤ x ∧ x ≤ 255) ∧
    ¬ ([256].length ≤ State.reset.vlmax.toNat ∧ ∀ x ∈ [(256 : Int)], 0 ≤ x ∧ x ≤ 255) ∧
    ¬ ([-1].length ≤ State.reset.vlmax.toNat ∧ ∀ x ∈ [(-1 : Int)], 0 ≤ x ∧ x ≤ 255) ∧
    ({ State.reset with port := [.writeV 1 [256]] } : State).port = .writeV 1 [256] :: [] ∧
    ({ State.reset with port := [.writeS 1 0] } : State).port = .writeS 1 0 :: [] := by decide +kernel

theorem witness_HostReadsRegisters :
    holdsS (withS State.reset [(15, 7)]) 15 7 ∧ unwrittenS State.reset 0 ∧
    holdsV (withV State.reset [(15, [])]) 15 [] ∧ unwrittenV State.reset 0 ∧
    (∃ t, exec (.rdcr 1 12) State.reset = .next t) ∧ (∃ t, exec (.rdcr 1 13) State.reset = .next t) :=
  ⟨by decide, by decide, by decide, by decide, ⟨_, rfl⟩, ⟨_, rfl⟩⟩

/-! ### System and data movement -/

theorem witness_SystemCommandsComplete : holdsS (withS State.reset [(1, 7)]) 1 7 := by decide

theorem witness_RdcrReadsControlRegisters :
    1 ≤ gf16.state.toNat ∧ 2 ≤ bch.state.toNat ∧ State.reset.state = 0 ∧ gf16.state.toNat < 2 ∧
    12 < (13#16).toNat ∧ 12 < (0xFFFF#16).toNat := by decide

/-- L = 0, VLMAX, one more, and -1. -/
theorem witness_VzeroWritesZeros :
    holdsS (withS State.reset [(1, 0), (2, 512), (3, 513), (4, 0xFFFFFFFF)]) 1 0 ∧ 0 ≤ (0#32).toInt ∧
    (0#32).toInt ≤ State.reset.vlmax.toNat ∧ (512#32).toInt ≤ State.reset.vlmax.toNat ∧
    (State.reset.vlmax.toNat : Int) < (513#32).toInt ∧ (0xFFFFFFFF#32).toInt < 0 := by decide

/-- The state of the witnesses about `VSET` and `VGET`. -/
def movers : State := withV (withS State.reset [(1, 0), (2, 3), (3, 4), (4, 0xFFFFFFFF), (5, 255), (6, 256)]) [(1, [9, 8, 7, 6])]

theorem witness_VsetReplacesOneEntry :
    holdsS movers 2 3 ∧ holdsS movers 5 255 ∧ holdsV movers 1 [9, 8, 7, 6] ∧
    (0 ≤ (3#32).toInt ∧ (3#32).toInt < ([9, 8, 7, 6] : List Byte).length ∧ 0 ≤ (255#32).toInt ∧ (255#32).toInt ≤ 255) ∧
    ¬ (0 ≤ (4#32).toInt ∧ (4#32).toInt < ([9, 8, 7, 6] : List Byte).length) ∧
    ¬ (0 ≤ (0xFFFFFFFF#32).toInt ∧ (0xFFFFFFFF#32).toInt < ([9, 8, 7, 6] : List Byte).length) ∧
    ¬ (0 ≤ (256#32).toInt ∧ (256#32).toInt ≤ 255) ∧ ¬ (0 ≤ (0xFFFFFFFF#32).toInt ∧ (0xFFFFFFFF#32).toInt ≤ 255) := by decide

theorem witness_VgetVlenAndVmovReadVectors :
    holdsV movers 1 [9, 8, 7, 6] ∧ holdsS movers 2 3 ∧ (3#32).toNat < ([9, 8, 7, 6] : List Byte).length ∧
    0 ≤ (3#32).toInt ∧ ¬ (0 ≤ (4#32).toInt ∧ (4#32).toInt < ([9, 8, 7, 6] : List Byte).length) ∧
    ¬ (0 ≤ (0xFFFFFFFF#32).toInt ∧ (0xFFFFFFFF#32).toInt < ([9, 8, 7, 6] : List Byte).length) := by decide

/-! ### The field -/

/-- m = 2 and m = 8, a given polynomial and the default one. -/
theorem witness_GfinitBuildsTheField :
    holdsS (withS State.reset [(1, 2), (2, 7), (3, 8), (4, 0)]) 1 2 ∧
    holdsS (withS State.reset [(1, 2), (2, 7), (3, 8), (4, 0)]) 4 0 ∧ (2#32).toInt = (2 : Nat) ∧ (8#32).toInt = (8 : Nat) ∧
    (7#32).toInt = (7 : Nat) ∧ State.reset.defaultPrims.toList[2 - 2]? = some 7 ∧
    State.reset.defaultPrims.toList[8 - 2]? = some 285 ∧ accepted 2 7 ∧ accepted 8 285 := by
  unfold accepted orderIsN
  decide +kernel

/-- m = 1 and 9, a negative polynomial, one of degree m + 1, one of degree m that is not primitive, and a build whose
default is such a one. -/
theorem witness_GfinitRefusesBadParameters :
    holdsS (withS State.reset [(1, 1), (2, 9), (3, 4), (4, 31), (5, 0xFFFFFFFF), (6, 32)]) 4 31 ∧
    ¬ (2 ≤ (1#32).toInt ∧ (1#32).toInt ≤ 8) ∧ ¬ (2 ≤ (9#32).toInt ∧ (9#32).toInt ≤ 8) ∧
    (2 ≤ (4#32).toInt ∧ (4#32).toInt ≤ 8 ∧ 31#32 ≠ 0) ∧ (0xFFFFFFFF#32).toInt < 0 ∧
    ({ State.reset with defaultPrims := #v[7, 11, 31, 37, 67, 137, 285] } : State).defaultPrims.toList[(4#32).toNat - 2]? =
      some 31 ∧
    ¬ accepted (4#32).toNat (31#32).toNat ∧ ¬ accepted (4#32).toNat (32#32).toNat := by
  unfold accepted orderIsN
  decide +kernel

theorem witness_TablesAreInverse :
    ∃ t, exec (.gfinit 1 2) (withS State.reset [(1, 4), (2, 0)]) = .next t ∧ t.err = 0 := ⟨_, rfl, by decide +kernel⟩

theorem witness_FieldLawsAfterGfinit :
    ∃ t, exec (.gfinit 1 2) (withS State.reset [(1, 4), (2, 0)]) = .next t ∧ t.err = 0 ∧ 15 < 2 ^ t.m.toNat :=
  ⟨_, rfl, by decide +kernel, by decide +kernel⟩

/-- The operands of the witnesses about field arithmetic, in GF(2^4). -/
def scalars16 : State := withS gf16 [(1, 15), (2, 13), (3, 0), (4, 16), (5, 0xFFFFFFFF), (6, 14)]

theorem witness_GfaddAndGfmulCompute :
    holdsS scalars16 1 15 ∧ holdsS scalars16 2 13 ∧ holdsS scalars16 3 0 ∧ holdsS scalars16 4 16 ∧ 1 ≤ scalars16.state.toNat ∧
    (isElem scalars16 15 ∧ isElem scalars16 13) ∧ Memory.read scalars16.log 15 = some 12 ∧
    Memory.read scalars16.log 13 = some 13 ∧ Memory.read scalars16.exp ((12 + 13) % 15) = some 7 ∧
    ¬ (isElem scalars16 16 ∧ isElem scalars16 13) ∧ ¬ (isElem scalars16 15 ∧ isElem scalars16 0xFFFFFFFF) := by
  decide +kernel

theorem witness_GfpowAndGfinvCompute :
    holdsS scalars16 1 15 ∧ holdsS scalars16 3 0 ∧ holdsS scalars16 5 0xFFFFFFFF ∧ 1 ≤ scalars16.state.toNat ∧
    isElem scalars16 15 ∧ Memory.read scalars16.log 15 = some 12 ∧
    Memory.read scalars16.exp ((12 * (0xFFFFFFFF#32).toInt) % 15).toNat = some 8 ∧
    Memory.read scalars16.exp ((15 - 12 : Int) % 15).toNat = some 8 ∧ ¬ isElem scalars16 16 ∧
    ¬ isElem scalars16 0xFFFFFFFF := by decide +kernel

theorem witness_LdexpAndLdlogReadTables :
    holdsS scalars16 6 14 ∧ 1 ≤ scalars16.state.toNat ∧ (0 ≤ (14#32).toInt ∧ (14#32).toInt < scalars16.n.toNat) ∧
    Memory.read scalars16.exp 14 = some 9 ∧ ¬ (0 ≤ (15#32).toInt ∧ (15#32).toInt < scalars16.n.toNat) ∧
    isElem scalars16 15 ∧ Memory.read scalars16.log 15 = some 12 ∧ Memory.read scalars16.log 0 = some (BitVec.ofInt 9 (-1)) ∧
    ¬ isElem scalars16 16 ∧ ¬ isElem scalars16 0xFFFFFFFF := by decide +kernel

/-! ### Polynomials -/

theorem witness_PdegFindsTheDegree :
    holdsV (withV State.reset [(1, []), (2, [0, 200, 0])]) 1 [] ∧ holdsV (withV State.reset [(1, []), (2, [0, 200, 0])]) 2 [0, 200, 0] ∧
    (∀ x ∈ ([] : List Byte), x = 0) ∧ (1 < ([0, 200, 0] : List Byte).length) ∧ ([0, 200, 0] : List Byte)[1] ≠ 0 ∧
    (∀ (j : Nat) (h : j < ([0, 200, 0] : List Byte).length), 1 < j → ([0, 200, 0] : List Byte)[j] = 0) := by
  refine ⟨by decide, by decide, by decide, by decide, by decide, ?_⟩
  intro j h hj
  have : j = 2 := by simp at h; omega
  subst this
  rfl

/-- The longest product that fits, one entry more, an empty operand, and an entry outside the field. -/
theorem witness_PmulWritesTheConvolution :
    holdsV (withV gf16 [(1, [2, 1]), (2, [16])]) 1 [2, 1] ∧ 1 ≤ gf16.state.toNat ∧
    allElems gf16 (List.replicate 256 1) ∧ 256 + 257 - 1 ≤ gf16.vlmax.toNat ∧ gf16.vlmax.toNat < 257 + 257 - 1 ∧
    (if ([] : List Byte) = [] ∨ ([1] : List Byte) = [] then 0 else 1) ≤ gf16.vlmax.toNat ∧ ¬ (allElems gf16 [16] ∧ allElems gf16 [1]) := by
  decide +kernel

/-- The state of the witnesses about division, in GF(2^4). -/
def polys : State := withV gf16 [(1, [1, 0, 1]), (2, [3, 2]), (3, [0, 0]), (4, [])]

theorem witness_PdivWritesQuotientAndRemainder :
    holdsV polys 1 [1, 0, 1] ∧ holdsV polys 2 [3, 2] ∧ holdsV polys 3 [0, 0] ∧ holdsV polys 4 [] ∧ 1 ≤ polys.state.toNat ∧
    ([1, 0, 1] : List Byte).length ≤ polys.vlmax.toNat ∧ (allElems polys [15] ∧ allElems polys [3, 2]) ∧
    (∃ y ∈ ([3, 2] : List Byte), y ≠ 0) ∧ (∀ y ∈ ([0, 0] : List Byte), y = 0) ∧ (∀ y ∈ ([] : List Byte), y = 0) ∧
    ¬ (allElems polys [16] ∧ allElems polys [1]) := by decide +kernel

theorem witness_DivisionIdentity :
    Inv gf16 ∧ 1 ≤ gf16.state.toNat ∧ inField gf16 [1, 0, 1] ∧ inField gf16 [3, 15] ∧
    (∃ q r, polyDiv gf16.field [1, 0, 1] [3, 15] = .ok (q, r)) := by
  refine ⟨inv_gf16, by decide, by unfold inField; decide, by unfold inField; decide, _, _, rfl⟩

theorem witness_PgcdWritesTheGcd :
    holdsV polys 1 [1, 0, 1] ∧ holdsV polys 2 [3, 2] ∧ 1 ≤ polys.state.toNat ∧
    ([1, 0, 1] : List Byte).length ≤ polys.vlmax.toNat ∧ (allElems polys [15, 0, 1] ∧ allElems polys [3, 2]) ∧
    (∀ y ∈ ([0, 0] : List Byte), y = 0) ∧ (∃ y ∈ ([3, 2] : List Byte), y ≠ 0) ∧ ¬ (allElems polys [16] ∧ allElems polys [1]) := by
  decide +kernel

theorem witness_GcdIsAGreatestCommonDivisor :
    Inv gf16 ∧ 1 ≤ gf16.state.toNat ∧ inField gf16 [1, 0, 1] ∧ inField gf16 [0, 0] ∧
    (0 ≤ polyDeg [1, 0, 1] ∨ 0 ≤ polyDeg [0, 0]) ∧
    (∃ u, inField gf16 u ∧ polyEq [1, 0, 1] (polyMul gf16.field u [1, 1])) ∧
    (∃ v, inField gf16 v ∧ polyEq [0, 0] (polyMul gf16.field v [1, 1])) := by
  have e1 : polyMul gf16.field [1, 1] [1, 1] = [1, 0, 1] := by decide +kernel
  have e2 : polyMul gf16.field [0] [1, 1] = [0, 0] := by decide +kernel
  refine ⟨inv_gf16, by decide, by unfold inField; decide, by unfold inField; decide, by decide,
    ⟨[1, 1], by unfold inField; decide, ?_⟩, ⟨[0], by unfold inField; decide, ?_⟩⟩
  · rw [e1]
    exact fun _ => rfl
  · rw [e2]
    exact fun _ => rfl

/-- A product of 512 entries, one of 513, two zero polynomials, and one. -/
theorem witness_PlcmWritesTheLcm :
    holdsV polys 1 [1, 0, 1] ∧ holdsV polys 3 [0, 0] ∧ 1 ≤ polys.state.toNat ∧ (allElems polys [1, 0, 1] ∧ allElems polys [15]) ∧
    ¬ (allElems polys [16] ∧ allElems polys [1]) ∧
    polys.vlmax.toNat < (polyMul polys.field (List.replicate 512 0) [0, 0]).length ∧
    (polyMul polys.field (List.replicate 511 0) [0, 0]).length ≤ polys.vlmax.toNat ∧
    (∀ x ∈ ([0, 0] : List Byte), x = 0) ∧ ((∃ x ∈ ([0, 0] : List Byte), x ≠ 0) ∨ (∃ y ∈ ([1, 0, 1] : List Byte), y ≠ 0)) := by
  decide +kernel

/-! ### Cosets and generators -/

theorem witness_CosetsAreTheOrbits :
    (2 ≤ 2 ∧ 2 ≤ 8 ∧ 3 = 2 ^ 2 - 1 ∧ 2 * 1 < 3) ∧ (2 ≤ 8 ∧ 8 ≤ 8 ∧ 255 = 2 ^ 8 - 1 ∧ 2 * 127 < 255) := by decide

/-- The operand t at its bounds, and one beyond each. -/
def bounds16 : State := withS gf16 [(1, 1), (2, 7), (3, 8), (4, 0)]

theorem witness_CosetsWritesMembersAndSizes :
    Inv bounds16 ∧ holdsS bounds16 2 7 ∧ holdsS bounds16 3 8 ∧ 1 ≤ bounds16.state.toNat ∧ legalT bounds16 1 ∧
    legalT bounds16 7 ∧ ¬ legalT bounds16 8 ∧ ¬ legalT bounds16 0 := ⟨inv_withS inv_gf16 _, by decide⟩

theorem witness_MinpolyWritesTheProduct :
    holdsV (withV gf16 [(1, [14]), (2, [15])]) 1 [14] ∧ holdsV (withV gf16 [(1, [14]), (2, [15])]) 2 [15] ∧ 1 ≤ gf16.state.toNat ∧
    (∀ i ∈ ([14] : List Byte), i.toNat < gf16.n.toNat) ∧ ¬ (∀ i ∈ ([15] : List Byte), i.toNat < gf16.n.toNat) ∧
    (List.replicate 511 (0 : Byte)).length + 1 ≤ gf16.vlmax.toNat ∧
    gf16.vlmax.toNat < (List.replicate 512 (0 : Byte)).length + 1 := by decide +kernel

theorem witness_MinpolyVanishesOnItsRoots :
    Inv gf16 ∧ 1 ≤ gf16.state.toNat ∧ (∀ i ∈ [0, 14], i < gf16.n.toNat) ∧ 14 ∈ [0, 14] := ⟨inv_gf16, by decide⟩

theorem witness_GenpolyWritesAGenerator :
    Inv bounds16 ∧ holdsS bounds16 2 7 ∧ holdsS bounds16 4 0 ∧ 1 ≤ bounds16.state.toNat ∧ legalT bounds16 1 ∧
    legalT bounds16 7 ∧ ¬ legalT bounds16 8 ∧ ¬ legalT bounds16 0 := ⟨inv_withS inv_gf16 _, by decide⟩

theorem witness_BchinitInstallsTheCodec :
    Inv bounds16 ∧ holdsS bounds16 1 1 ∧ holdsS bounds16 3 8 ∧ 1 ≤ bounds16.state.toNat ∧ legalT bounds16 1 ∧
    legalT bounds16 7 ∧ ¬ legalT bounds16 8 ∧ ¬ legalT bounds16 0 := ⟨inv_withS inv_gf16 _, by decide⟩

theorem witness_LdgenWritesTheGenerator : Inv bch ∧ bch.state = 2 := ⟨inv_bch, by decide⟩

/-! ### The encoder and the decoders -/

/-- A message, one that is too short, and one with an entry that is no bit. -/
theorem witness_EncWritesParityThenMessage :
    Inv (withV bch [(1, [1, 0, 1, 1, 0, 0, 1]), (2, [2, 0, 1, 1, 0, 0, 1])]) ∧
    genShape (withV bch [(1, [1, 0, 1, 1, 0, 0, 1]), (2, [2, 0, 1, 1, 0, 0, 1])]) ∧
    holdsV (withV bch [(1, [1, 0, 1, 1, 0, 0, 1]), (2, [2, 0, 1, 1, 0, 0, 1])]) 1 [1, 0, 1, 1, 0, 0, 1] ∧ bch.state = 2 ∧
    ([1, 0, 1, 1, 0, 0, 1] : List Byte).length = bch.k.toNat ∧ allBits [1, 0, 1, 1, 0, 0, 1] ∧
    ([1, 0, 1, 1, 0, 0] : List Byte).length ≠ bch.k.toNat ∧ ¬ allBits [2, 0, 1, 1, 0, 0, 1] :=
  ⟨inv_withV inv_bch _ (by decide), shape_bch, by decide⟩

theorem witness_EncodeThenDecodeRoundTrip :
    Inv bch ∧ genShape bch ∧ bch.state = 2 ∧ [1, 0, 1, 1, 0, 0, 1].length = bch.k.toNat ∧
    (∀ b ∈ [1, 0, 1, 1, 0, 0, 1], b ≤ 1) := ⟨inv_bch, shape_bch, by decide⟩

/-- Words that reach each terminal state, one that is too long, and one with an entry that is no bit. -/
def words : State := withV bch [(1, cw), (2, cw2), (3, z014), (4, z013), (5, 0 :: cw), (6, 2 :: cw.drop 1)]

theorem inv_words : Inv words := inv_withV inv_bch _ (by decide)

theorem witness_SyndWritesTheSyndromes :
    Inv words ∧ holdsV words 2 cw2 ∧ holdsV words 5 (0 :: cw) ∧ holdsV words 6 (2 :: cw.drop 1) ∧ words.state = 2 ∧
    cw2.length = words.n.toNat ∧ allBits cw2 ∧ (0 :: cw).length ≠ words.n.toNat ∧ ¬ allBits (2 :: cw.drop 1) :=
  ⟨inv_words, by decide⟩

/-- A zero vector, one whose largest system is singular, one with no nonsingular system, and the two errors. -/
theorem witness_PetersonSolvesTheLargestSystem :
    Inv (withV bch [(1, [0, 0, 0, 0]), (2, [11, 9, 12, 13]), (3, [0, 0, 6, 0])]) ∧
    holdsV (withV bch [(1, [0, 0, 0, 0]), (2, [11, 9, 12, 13]), (3, [0, 0, 6, 0])]) 2 [11, 9, 12, 13] ∧ bch.state = 2 ∧
    ([11, 9, 12, 13] : List Byte).length = 2 * bch.t.toNat ∧ allElems bch [11, 9, 12, 13] ∧
    (∀ x ∈ ([0, 0, 0, 0] : List Byte), x = 0) ∧ (∃ x ∈ ([11, 9, 12, 13] : List Byte), x ≠ 0) ∧
    gfDet bch.field 1 (syndromeMatrix (elems [11, 9, 12, 13]) 1) ≠ 0 ∧
    gfDet bch.field 2 (syndromeMatrix (elems [11, 9, 12, 13]) 2) = 0 ∧
    gfDet bch.field 1 (syndromeMatrix (elems [0, 0, 6, 0]) 1) = 0 ∧
    gfDet bch.field 2 (syndromeMatrix (elems [0, 0, 6, 0]) 2) = 0 ∧
    ([0, 0, 6] : List Byte).length ≠ 2 * bch.t.toNat ∧ ¬ allElems bch [16, 0, 0, 0] :=
  ⟨inv_withV inv_bch _ (by decide), by decide +kernel⟩

theorem witness_ChienFindsTheRoots :
    Inv (withV bch [(3, [1, 10, 13]), (4, [16])]) ∧ holdsV (withV bch [(3, [1, 10, 13]), (4, [16])]) 3 [1, 10, 13] ∧ bch.state = 2 ∧
    allElems bch [1, 10, 13] ∧ allElems bch [] ∧ ¬ allElems bch [16] := ⟨inv_withV inv_bch _ (by decide), by decide⟩

theorem witness_DecReachesItsTerminalStates :
    Inv words ∧ holdsV words 1 cw ∧ holdsV words 3 z014 ∧ words.state = 2 ∧ (2 : VReg) ≠ 3 ∧ cw.length = words.n.toNat ∧ allBits cw ∧
    (∀ x ∈ syndromes words.field 2 (elems cw), x = 0) ∧ (petersonSolve words.field (syndromes words.field 2 (elems z014)) 2).1 = -1 ∧
    (petersonSolve words.field (syndromes words.field 2 (elems z013)) 2).1 = 2 ∧
    (chien words.field (petersonSolve words.field (syndromes words.field 2 (elems z013)) 2).2).length ≠ 2 ∧
    chien words.field (petersonSolve words.field (syndromes words.field 2 (elems cw2)) 2).2 = [2, 11] ∧
    (0 :: cw).length ≠ words.n.toNat ∧ ¬ allBits (2 :: cw.drop 1) := ⟨inv_words, by decide +kernel⟩

theorem witness_DecbmReachesItsTerminalStates :
    Inv words ∧ holdsV words 1 cw ∧ holdsV words 4 z013 ∧ words.state = 2 ∧ (2 : VReg) ≠ 3 ∧ cw.length = words.n.toNat ∧ allBits cw ∧
    (∀ x ∈ syndromes words.field 2 (elems cw), x = 0) ∧ polyDeg (bmLocator words.field (syndromes words.field 2 (elems z014))) = 3 ∧
    polyDeg (bmLocator words.field (syndromes words.field 2 (elems z013))) = 2 ∧
    (chien words.field (bmLocator words.field (syndromes words.field 2 (elems z013)))).length = 0 ∧
    chien words.field (bmLocator words.field (syndromes words.field 2 (elems cw2))) = [2, 11] ∧
    (0 :: cw).length ≠ words.n.toNat ∧ ¬ allBits (2 :: cw.drop 1) := ⟨inv_words, by decide +kernel⟩

/-- BCH(15,5,3), whose Meggitt decode gives up on errors at 0, 5 and 10 (R218). -/
def bch3 : State :=
  { gf16 with state := 2, t := 3, k := 5, gen := Memory.ofSeq [1, 1, 1, 0, 1, 1, 0, 0, 1, 0, 1] }

theorem inv_bch3 : Inv bch3 := by
  refine ⟨by decide, by decide, by decide, by decide, by decide, by decide, ?_, by decide, by decide, ?_, ?_⟩
  · exact ⟨by decide +kernel, by decide +kernel, by decide +kernel⟩
  · exact fun _ => ⟨gf16_accepted, by decide, by decide +kernel⟩
  · exact fun _ => ⟨by decide, by decide, [1, 1, 1, 0, 1, 1, 0, 0, 1, 0, 1], by decide +kernel, rfl, by decide +kernel⟩

/-- Three words: a codeword, two errors that the first light remainder finds after four shifts (R217), and three errors that
no shift brings together (R218). -/
theorem witness_DecmgTakesTheFirstLightRemainder :
    (Inv words ∧ Inv (withV bch3 [(1, [1, 0, 0, 0, 0, 1, 0, 0, 0, 0, 1, 0, 0, 0, 0])])) ∧ genShape bch ∧ genShape bch3 ∧
    holdsV words 2 cw2 ∧ words.state = 2 ∧ (2 : VReg) ≠ 3 ∧ cw2.length = words.n.toNat ∧ allBits cw2 ∧
    (remainderOf words (elems cw)).count 1 = 0 ∧ (remainderOf words (elems cw2)).count 1 ≠ 0 ∧
    (∀ i < 4, words.t.toNat < (remainderOf words (rotR^[i] (elems cw2))).count 1) ∧
    (remainderOf words (rotR^[4] (elems cw2))).count 1 ≤ words.t.toNat ∧
    (∀ i ≤ 15, 3 < (remainderOf bch3 (rotR^[i] [1, 0, 0, 0, 0, 1, 0, 0, 0, 0, 1, 0, 0, 0, 0])).count 1) ∧
    (0 :: cw).length ≠ words.n.toNat ∧ ¬ allBits (2 :: cw.drop 1) := by
  refine ⟨⟨inv_words, inv_withV inv_bch3 _ (by decide)⟩, shape_bch, ?_, by decide +kernel⟩
  unfold genShape
  decide +kernel

theorem witness_SevenFourCorrectsSingleErrors :
    Inv bch74 ∧ bch74.state = 2 ∧ bch74.m = 3 ∧ bch74.t = 1 ∧ [1, 0, 1, 1].length = 4 ∧ (∀ b ∈ [1, 0, 1, 1], b ≤ 1) ∧ 6 < 7 :=
  ⟨inv_bch74, by decide⟩

/-! ### The RS unit -/

/-- Points, too few y values, a coordinate of 31, and a repeated x. -/
def points : State := withS (withV State.reset [(1, px), (2, py), (3, [5, 17]), (4, [31, 0]), (5, [1, 1]), (6, [3, 3])]) [(1, 3), (2, 0xFFFFFFFF), (3, 6)]

theorem inv_points : Inv points := inv_withS (inv_withV inv_reset _ (by decide)) _

theorem witness_RsinterpWritesCoefficients :
    Inv points ∧ holdsV points 1 px ∧ holdsV points 2 py ∧ px.length = py.length ∧
    ((∀ x ∈ px, x.toNat < 31) ∧ (∀ y ∈ py, y.toNat < 31)) ∧ px.Nodup ∧ px.length ≠ ([5, 17] : List Byte).length ∧
    ¬ ((∀ x ∈ ([31, 0] : List Byte), x.toNat < 31) ∧ (∀ y ∈ ([3, 3] : List Byte), y.toNat < 31)) ∧
    ((∀ x ∈ ([30, 30] : List Byte), x.toNat < 31) ∧ (∀ y ∈ ([3, 3] : List Byte), y.toNat < 31)) ∧
    ¬ ([30, 30] : List Byte).Nodup := ⟨inv_points, by decide⟩

theorem witness_InterpolationIsExactAndUnique :
    [30, 0].length = [1, 2].length ∧ (∀ x ∈ [30, 0], x < 31) ∧ (∀ y ∈ [1, 2], y < 31) ∧ [30, 0].Nodup ∧
    [2, 1].length = [30, 0].length ∧ (∀ e ∈ [2, 1], e < 31) ∧ rsVerify 31 [30, 0] [1, 2] [2, 1] = true := by decide +kernel

theorem witness_RsverifyComparesEveryPoint :
    Inv points ∧ holdsV points 1 px ∧ holdsV points 2 py ∧ holdsV points 6 [3, 3] ∧ px.length = py.length ∧
    ((∀ x ∈ px, x.toNat < 31) ∧ (∀ y ∈ py, y.toNat < 31) ∧ (∀ e ∈ ([5, 7, 3, 30] : List Byte), e.toNat < 31)) ∧
    ¬ ((∀ x ∈ px, x.toNat < 31) ∧ (∀ y ∈ py, y.toNat < 31) ∧ (∀ e ∈ ([31] : List Byte), e.toNat < 31)) ∧
    px.length ≠ ([5, 17] : List Byte).length ∧
    (∀ p ∈ px.zip py, (([5, 7, 3, 2] : List Byte).mapIdx fun j e => e.toNat * p.1.toNat ^ j).sum % 31 = p.2.toNat) ∧
    (∃ p ∈ px.zip py, (([3, 3] : List Byte).mapIdx fun j e => e.toNat * p.1.toNat ^ j).sum % 31 ≠ p.2.toNat) :=
  ⟨inv_points, by decide, by decide, by decide, by decide, by decide, by decide, by decide, by simp [px, py],
    by simp [px, py]⟩

/-- d at its largest value for six points, one more, and -1. -/
theorem witness_RsdecWritesWhatItDecodes :
    Inv points ∧ holdsV points 1 px ∧ holdsV points 2 py ∧ holdsS points 1 3 ∧ holdsS points 2 0xFFFFFFFF ∧ holdsS points 3 6 ∧
    (2 : SReg) ≠ 3 ∧ px.length = py.length ∧ ((∀ x ∈ px, x.toNat < 31) ∧ (∀ y ∈ py, y.toNat < 31)) ∧
    px.length ≠ ([5, 17] : List Byte).length ∧ ¬ ((∀ x ∈ ([31] : List Byte), x.toNat < 31) ∧ (∀ y ∈ ([3] : List Byte), y.toNat < 31)) ∧
    (0xFFFFFFFF#32).toInt < 0 ∧ (0 ≤ (6#32).toInt ∧ (px.dedup.length : Int) < (6#32).toInt + 1) ∧
    (0 ≤ (5#32).toInt ∧ (5#32).toInt + 1 ≤ (px.dedup.length : Int)) := ⟨inv_points, by decide +kernel⟩

/-- The fewest points each part speaks of. -/
theorem witness_SingleExclusionCorrectsOneError :
    [0, 30].Nodup ∧ (∀ x ∈ [0, 30], x < 31) ∧ [5, 7].length = 1 + 1 ∧ (∀ e ∈ [5, 30], e < 31) ∧ 1 + 1 ≤ [0, 30].length ∧
    [0, 1, 2, 30].Nodup ∧ 1 + 3 ≤ [0, 1, 2, 30].length ∧ 3 < [0, 1, 2, 30].length ∧ 0 < 31 ∧
    0 ≠ rsEval 31 [5, 7] ([0, 1, 2, 30].getD 3 0) := by decide +kernel

/-- 256 points and 257, beside the bounds of `RSDEC`. -/
theorem witness_RsdecmvWritesWhatItDecodes :
    Inv points ∧ holdsV points 1 px ∧ holdsV points 2 py ∧ holdsS points 1 3 ∧ holdsS points 2 0xFFFFFFFF ∧ holdsS points 3 6 ∧
    (3 : VReg) ≠ 4 ∧ px.length = py.length ∧ ((∀ x ∈ px, x.toNat < 31) ∧ (∀ y ∈ py, y.toNat < 31)) ∧
    px.length ≠ ([5, 17] : List Byte).length ∧ ¬ ((∀ x ∈ ([31] : List Byte), x.toNat < 31) ∧ (∀ y ∈ ([3] : List Byte), y.toNat < 31)) ∧
    (0xFFFFFFFF#32).toInt < 0 ∧ 256 < (List.replicate 257 (0 : Byte)).length ∧ (List.replicate 256 (0 : Byte)).length ≤ 256 ∧
    (0 ≤ (6#32).toInt ∧ px.length ≤ 256 ∧ (px.dedup.length : Int) < (6#32).toInt + 1) ∧
    (0 ≤ (5#32).toInt ∧ px.length ≤ 256 ∧ (5#32).toInt + 1 ≤ (px.dedup.length : Int)) := ⟨inv_points, by decide +kernel⟩

end Sys2Proof.Tests
end

section
-- One declaration after the other, as in the tests above: while the kernel is still busy with these, declarations that
-- are elaborated side by side each wait in a thread of their own.
set_option Elab.async false

section
/-! SUPPORT. What a command can do, said once: it raises an error, or it makes a list of writes to the registers it
names, or it ends and builds a field or a codec. Which of these, and with which values, depends on no status
register. -/

namespace Sys2Proof.Machine

/-! ### The status registers apart from the rest of the state -/

/-- The contents of `ERR`, `ERRSTICKY` and `DREASON` (R32). -/
structure Status where
  err : BitVec 8
  errsticky : BitVec 32
  dreason : BitVec 8

/-- The status registers of a state. -/
def State.status (s : State) : Status := ⟨s.err, s.errsticky, s.dreason⟩

/-- The same state with other contents of the status registers. -/
def State.withStatus (s : State) (σ : Status) : State :=
  { s with err := σ.err, errsticky := σ.errsticky, dreason := σ.dreason }

@[simp] theorem withStatus_status (s : State) : s.withStatus s.status = s := rfl

/-! ### Writes -/

/-- What a command that is no construction writes beside `ERR`: an operand register, or `DREASON` (R25, R32). -/
inductive Write where
  | scalar (r : SReg) (x : Word)
  | vector (r : VReg) (xs : List Byte)
  | reason (d : BitVec 8)

/-- The state after one write. -/
def Write.apply (s : State) : Write → State
  | .scalar r x => s.setScalar r x
  | .vector r xs => s.setVector r xs
  | .reason d => s.setReason d

/-- The state after writes, the first one first. -/
def applyWrites (s : State) (ws : List Write) : State := ws.foldl Write.apply s

/-- The scalar register a write goes to. -/
def Write.scalarTarget : Write → Option SReg
  | .scalar r _ => some r
  | _ => none

/-- The vector register a write goes to. -/
def Write.vectorTarget : Write → Option VReg
  | .vector r _ => some r
  | _ => none

/-- What a command keeps to in a write: a vector is no longer than `VLMAX` or than one it has read, and `DREASON` is one
of the values of R32. -/
def Write.Fits (s : State) : Write → Prop
  | .scalar _ _ => True
  | .vector _ xs => xs.length ≤ s.vlmax.toNat ∨ ∃ q : VReg, xs.length = s.vectors[q].entries.length
  | .reason d => d.toNat ≤ 5

@[simp] theorem Write.fits_scalar {s : State} {r : SReg} {x : Word} : (Write.scalar r x).Fits s := trivial

/-- The writes go to exactly the listed destinations, in order, and keep to their bounds. -/
structure WritesTo (s : State) (S : List SReg) (V : List VReg) (ws : List Write) : Prop where
  scalars : ws.filterMap Write.scalarTarget = S
  vectors : ws.filterMap Write.vectorTarget = V
  fits : ∀ w ∈ ws, w.Fits s

/-! ### The rules by which a command is followed -/

/-- Whatever the status registers of `s` hold, the rule of a command raises one and the same error or makes the same
writes, to the scalar registers `S` and the vector registers `V`. -/
def OnlyWrites (s : State) (S : List SReg) (V : List VReg) (body : Status → Except Err State) : Prop :=
  (∃ e, ∀ σ, body σ = .error e) ∨
    ∃ ws, WritesTo s S V ws ∧ ∀ σ, body σ = .ok (applyWrites (s.withStatus σ) ws)

section
variable {s : State} {S : List SReg} {V : List VReg}

/-- A check or a read that looks at no status register. -/
theorem OnlyWrites.check {α : Type} {x : Status → Except Err α} {f : α → Status → Except Err State}
    (h : ∀ a, x s.status = .ok a → OnlyWrites s S V (f a)) (hx : ∀ σ, x σ = x s.status := by intro; rfl) :
    OnlyWrites s S V fun σ => x σ >>= fun a => f a σ := by
  cases e : x s.status with
  | error err => exact .inl ⟨err, fun σ => bind_eq_error.2 (.inl ((hx σ).trans e))⟩
  | ok a =>
    have hf : (fun σ => x σ >>= fun a => f a σ) = f a := funext fun σ => by rw [hx σ, e]; rfl
    rw [hf]
    exact h a e

/-- The write of a sequence into a vector register, and what follows it. -/
theorem OnlyWrites.putV {u : Status → State} {r : VReg} {xs : Status → List Nat} {f : State → Status → Except Err State}
    (h : (xs s.status).length ≤ s.vlmax.toNat →
      OnlyWrites s S V fun σ => f ((u σ).setVector r ((xs σ).map (BitVec.ofNat 8))) σ)
    (hx : ∀ σ, xs σ = xs s.status := by intro; rfl) (hu : ∀ σ, (u σ).vlmax = s.vlmax := by intro; rfl) :
    OnlyWrites s S V fun σ => putV (u σ) r (xs σ) >>= fun s1 => f s1 σ := by
  by_cases hl : (xs s.status).length ≤ s.vlmax.toNat
  · have hf : (fun σ => Machine.putV (u σ) r (xs σ) >>= fun s1 => f s1 σ) =
        fun σ => f ((u σ).setVector r ((xs σ).map (BitVec.ofNat 8))) σ := by
      funext σ
      rw [putV_eq_ok.2 ⟨by rwa [hu, hx], rfl⟩]
      rfl
    rw [hf]
    exact h hl
  · have hlong : ∀ σ, (u σ).vlmax.toNat < (xs σ).length := fun σ => by
      rw [hu, hx]
      exact Nat.lt_of_not_le hl
    exact .inl ⟨.lengthOverflow, fun σ => bind_eq_error.2 (.inl (putV_eq_error.2 ⟨rfl, hlong σ⟩))⟩

/-- The write of a sequence into a vector register, where it is the last write. -/
theorem OnlyWrites.lastPutV {u : Status → State} {r : VReg} {xs : Status → List Nat}
    (h : (xs s.status).length ≤ s.vlmax.toNat →
      OnlyWrites s S V fun σ => .ok ((u σ).setVector r ((xs σ).map (BitVec.ofNat 8))))
    (hx : ∀ σ, xs σ = xs s.status := by intro; rfl) (hu : ∀ σ, (u σ).vlmax = s.vlmax := by intro; rfl) :
    OnlyWrites s S V fun σ => Machine.putV (u σ) r (xs σ) := by
  have h' := OnlyWrites.putV (f := fun s1 _ => pure s1) h hx hu
  simpa only [bind_pure] using h'

/-- The end of a rule: the writes it has made. -/
theorem OnlyWrites.done {body : Status → Except Err State} (ws : Status → List Write)
    (hbody : ∀ σ, body σ = .ok (applyWrites (s.withStatus σ) (ws σ))) (fits : ∀ w ∈ ws s.status, w.Fits s)
    (hws : ∀ σ, ws σ = ws s.status := by intro; rfl)
    (hS : (ws s.status).filterMap Write.scalarTarget = S := by rfl)
    (hV : (ws s.status).filterMap Write.vectorTarget = V := by rfl) : OnlyWrites s S V body :=
  .inr ⟨ws s.status, ⟨hS, hV, fits⟩, fun σ => by rw [hbody, hws σ]⟩

/-- The end of a rule that has written one scalar register. -/
theorem OnlyWrites.scalar {body : Status → Except Err State} {r : SReg} {x : Status → Word}
    (hbody : ∀ σ, body σ = .ok ((s.withStatus σ).setScalar r (x σ)))
    (hx : ∀ σ, x σ = x s.status := by intro; rfl) : OnlyWrites s [r] [] body :=
  .done (fun σ => [.scalar r (x σ)]) hbody (by simp) (fun σ => by rw [hx σ])

/-- The end of a rule that has written one vector register. -/
theorem OnlyWrites.vector {body : Status → Except Err State} {r : VReg} {xs : Status → List Byte}
    (hbody : ∀ σ, body σ = .ok ((s.withStatus σ).setVector r (xs σ))) (fits : (Write.vector r (xs s.status)).Fits s)
    (hx : ∀ σ, xs σ = xs s.status := by intro; rfl) : OnlyWrites s [] [r] body :=
  .done (fun σ => [.vector r (xs σ)]) hbody (by simpa using fits) (fun σ => by rw [hx σ])

/-- A sequence that `putV` accepts fits. -/
theorem Write.fits_of_length_le {r : VReg} {xs : List Nat} (h : xs.length ≤ s.vlmax.toNat) :
    (Write.vector r (xs.map (BitVec.ofNat 8))).Fits s := .inl (by simpa using h)

/-- A rule whose last write is that of a sequence into its one destination. -/
theorem OnlyWrites.onePutV {r : VReg} {xs : Status → List Nat} (hx : ∀ σ, xs σ = xs s.status := by intro; rfl) :
    OnlyWrites s [] [r] fun σ => Machine.putV (s.withStatus σ) r (xs σ) :=
  .lastPutV (fun h => .vector (fun _ => rfl) (Write.fits_of_length_le h) fun σ => by rw [hx σ]) hx

/-- The end of a rule that writes two vector registers. -/
theorem OnlyWrites.twoPutV {r r' : VReg} {xs xs' : Status → List Nat}
    (hx : ∀ σ, xs σ = xs s.status := by intro; rfl) (hx' : ∀ σ, xs' σ = xs' s.status := by intro; rfl) :
    OnlyWrites s [] [r, r'] fun σ => Machine.putV (s.withStatus σ) r (xs σ) >>= fun s1 => Machine.putV s1 r' (xs' σ) :=
  .putV (fun h => .lastPutV (fun h' => .done (fun σ => [.vector r (toBytes (xs σ)), .vector r' (toBytes (xs' σ))])
    (fun _ => rfl) (by simpa using ⟨Write.fits_of_length_le h, Write.fits_of_length_le h'⟩)
    fun σ => by rw [hx σ, hx' σ]) hx' fun _ => rfl) hx

/-- The writes of a decode command, whose terminal state is one of R180. -/
theorem putDecoded_onlyWrites (vm vc : VReg) (sd : SReg) {d : Status → Decoded} (hr : (d s.status).reason.toNat ≤ 5)
    (hd : ∀ σ, d σ = d s.status := by intro; rfl) :
    OnlyWrites s [sd] [vm, vc] fun σ => putDecoded (s.withStatus σ) vm vc sd (d σ) :=
  .putV (fun hm => .putV (fun hc => .done
    (fun σ => [.vector vm (toBytes (d σ).msg), .vector vc (toBytes (d σ).word),
      .scalar sd (BitVec.ofInt 32 (d σ).count), .reason (d σ).reason])
    (fun _ => rfl) (by simpa using ⟨Write.fits_of_length_le hm, Write.fits_of_length_le hc, hr⟩)
    (fun σ => by rw [hd σ])) (fun σ => by rw [hd σ]) fun _ => rfl) (fun σ => by rw [hd σ])

end

end Sys2Proof.Machine
end


section
/-! SUPPORT. The terminal states of the three decoders are values of `DREASON` (R32, R180). -/

namespace Sys2Proof.Machine

theorem locateAndFlip_reason_le (c : Codec) (r locator : List Nat) (count : Int) :
    (locateAndFlip c r locator count).reason.toNat ≤ 5 := by
  simp only [locateAndFlip]
  split
  · simp [rejected, drLocationMismatch]
  · simp [drCorrected]

theorem bchDecode_reason_le (c : Codec) (r : List Nat) : (bchDecode c r).reason.toNat ≤ 5 := by
  simp only [bchDecode]
  split
  · simp [drClean]
  · split
    · simp [rejected, drNoSolution]
    · exact locateAndFlip_reason_le ..

theorem bchDecodeBM_reason_le (c : Codec) (r : List Nat) : (bchDecodeBM c r).reason.toNat ≤ 5 := by
  simp only [bchDecodeBM]
  split
  · simp [drClean]
  · split
    · simp [rejected, drNoSolution]
    · exact locateAndFlip_reason_le ..

theorem meggittLoop_reason_le {c : Codec} {r : List Nat} {fuel shifts : Nat} {w : List Nat} {d : Decoded}
    (h : meggittLoop c r fuel shifts w = .ok d) : d.reason.toNat ≤ 5 := by
  induction fuel generalizing shifts w with
  | zero =>
    cases h
    simp [rejected, drShiftsExhausted]
  | succ fuel ih =>
    simp only [meggittLoop] at h
    split at h
    · cases h
    · split at h
      · cases h
        simp [drClean]
      · split at h
        · cases h
          simp [drCorrected]
        · exact ih h

end Sys2Proof.Machine
end


section
/-! SUPPORT. The effect of every command: `exec_effect` says once all that a command can do. -/

namespace Sys2Proof.Machine

/-! ### The three commands that do more, and `RDCR` -/

/-- What a command does to the state in which it ends. -/
inductive Effect where
  /-- An error, and nothing else. -/
  | error (e : Err)
  /-- The destinations, and `DREASON` by a decode. -/
  | writes (ws : List Write)
  /-- `CLRERR` (R264). -/
  | clear
  /-- The old field has ended and the parameters of the new one are refused (R103, R306). -/
  | noField (e : Err)
  /-- A field has been built (R103). -/
  | field (m prim : Nat)
  /-- The old codec has ended and the new one cannot be built (R158, R306). -/
  | noCodec (e : Err)
  /-- A codec has been built (R158). -/
  | codec (t : Nat) (g : List Nat)

/-- The state in which a command with the given effect ends. -/
def Effect.run : Effect → State → State
  | .error e, s => raise e s
  | .writes ws, s => complete (applyWrites s ws)
  | .clear, s => complete (clearSticky s)
  | .noField e, s => raise e s.dropField
  | .field m prim, s => complete (s.dropField.installField m prim (gfBuild m prim).1 (gfBuild m prim).2)
  | .noCodec e, s => raise e s.dropCodec
  | .codec t g, s => complete (s.dropCodec.installCodec t (s.n.toNat - polyDeg g) g)

/-- Which effects a command can have in a state, and with which values. -/
def Effect.Allowed (i : Instr) (s : State) : Effect → Prop
  | .error _ => True
  | .writes ws => WritesTo s i.scalarDests i.vectorDests ws
  | .clear => i = .clrerr
  | .noField e => (∃ sa sb, i = .gfinit sa sb) ∧ (e = .unsupportedFieldDegree ∨ e = .invalidParameters)
  | .field m prim => (∃ sa sb, i = .gfinit sa sb) ∧ (Config.mMin ≤ m ∧ m ≤ Config.mMax) ∧ prim >>> m = 1 ∧
      isPrimitive m prim = true
  | .noCodec _ => (∃ sa, i = .bchinit sa) ∧ 1 ≤ s.state.toNat
  | .codec t g => (∃ sa, i = .bchinit sa) ∧ 1 ≤ s.state.toNat ∧ (1 ≤ t ∧ 2 * t < s.n.toNat) ∧
      genPoly s.field s.vlmax.toNat t = .ok g

/-- The command is no `RDCR` of a status register (R32). -/
def StatusFree (i : Instr) : Prop := ∀ sd cr, i = .rdcr sd cr → cr ≠ 2 ∧ cr ≠ 3 ∧ cr ≠ 4

/-- The effect is that of the command, in `s` and, unless the command reads a status register, in every state that
differs from `s` there alone. -/
def Effect.Describes (E : Effect) (i : Instr) (s : State) : Prop :=
  E.Allowed i s ∧ ∀ σ, StatusFree i ∨ σ = s.status → exec i (s.withStatus σ) = .next (E.run (s.withStatus σ))

theorem Effect.Describes.exec_eq {E : Effect} {i : Instr} {s : State} (h : E.Describes i s) :
    exec i s = .next (E.run s) := h.2 s.status (.inr rfl)

/-- A command whose rule does nothing but raise an error or write the destinations has one of these two effects. -/
theorem effect_of_rule {i : Instr} {s : State} {rule : Status → Except Err State}
    (hrule : ∀ σ, exec i (s.withStatus σ) = finish (s.withStatus σ) (rule σ))
    (h : OnlyWrites s i.scalarDests i.vectorDests rule) : ∃ E : Effect, E.Describes i s := by
  obtain ⟨e, he⟩ | ⟨ws, hws, hok⟩ := h
  · exact ⟨.error e, trivial, fun σ _ => by rw [hrule, he]; rfl⟩
  · exact ⟨.writes ws, hws, fun σ _ => by rw [hrule, hok]; rfl⟩

theorem readCR_withStatus {sd : SReg} {cr : BitVec 16} (s : State) {σ : Status}
    (h : StatusFree (.rdcr sd cr) ∨ σ = s.status) : readCR (s.withStatus σ) cr.toNat = readCR s cr.toNat := by
  rcases h with h | rfl
  · obtain ⟨h2, h3, h4⟩ := h sd cr rfl
    simp only [ne_eq, ← BitVec.toNat_inj] at h2 h3 h4
    unfold readCR
    split
    case h_3 | h_4 | h_5 => contradiction
    all_goals rfl
  · rfl

theorem execRdcr_effect (s : State) (sd : SReg) (cr : BitVec 16) : ∃ E : Effect, E.Describes (.rdcr sd cr) s := by
  have hrun : ∀ σ, StatusFree (.rdcr sd cr) ∨ σ = s.status → exec (.rdcr sd cr) (s.withStatus σ) =
      finish (s.withStatus σ) (readCR s cr.toNat >>= fun x => .ok ((s.withStatus σ).setScalar sd x)) := fun σ h => by
    rw [← readCR_withStatus s h]
    rfl
  cases hx : readCR s cr.toNat with
  | error e => exact ⟨.error e, trivial, fun σ h => by rw [hrun σ h, hx]; rfl⟩
  | ok x => exact ⟨.writes [.scalar sd x], ⟨rfl, rfl, by simp⟩, fun σ h => by rw [hrun σ h, hx]; rfl⟩

theorem execClrerr_describes (s : State) : Effect.clear.Describes .clrerr s := ⟨rfl, fun _ _ => rfl⟩

theorem finish_eq_complete {s t : State} {r : Except Err State} (h : r = .ok t) : finish s r = .next (complete t) := by
  rw [h, finish_ok]

theorem finish_eq_raise {s : State} {r : Except Err State} {e : Err} (h : r = .error e) :
    finish s r = .next (raise e s) := by
  rw [h, finish_error]

/-- The errors of R102. -/
theorem checkConstruction_error {table : Vector Nat 7} {m prim : Int} {e : Err}
    (h : checkConstruction table m prim = .error e) : e = .unsupportedFieldDegree ∨ e = .invalidParameters := by
  simp only [checkConstruction, bind_eq_error, ensure_eq_error] at h
  rcases h with ⟨-, h⟩ | ⟨_, -, ⟨-, h⟩ | ⟨_, -, ⟨-, h⟩ | ⟨_, -, h⟩⟩⟩
  · exact .inl h
  · exact .inr h
  · exact .inr h
  · cases h

/-- The operands of `GFINIT`, which it reads before the old field ends (R103). -/
def gfinitOperands (sa sb : SReg) (s : State) : Except Err (Word × Word) := do
  let m ← readS s sa
  let p ← readS s sb
  return (m, p)

theorem exec_gfinit_of_error {sa sb : SReg} {s : State} {e : Err} (h : gfinitOperands sa sb s = .error e) :
    exec (.gfinit sa sb) s = .next (raise e s) := by
  rw [gfinitOperands] at h
  show execGfinit sa sb s = _
  rw [execGfinit, h]
  rfl

theorem exec_gfinit_of_ok {sa sb : SReg} {s : State} {x y : Word} (h : gfinitOperands sa sb s = .ok (x, y)) :
    exec (.gfinit sa sb) s = finish s.dropField (constructField s.dropField x.toInt y.toInt) := by
  rw [gfinitOperands] at h
  show execGfinit sa sb s = _
  rw [execGfinit, h]

/-- A construction of a field checks its parameters and installs the tables they give (R103). -/
theorem constructField_eq (s : State) (m prim : Int) : constructField s m prim =
    checkConstruction s.defaultPrims m prim >>= fun p =>
      .ok (s.installField p.1 p.2 (gfBuild p.1 p.2).1 (gfBuild p.1 p.2).2) := rfl

/-- `GFINIT`: an unwritten operand, refused parameters, or a field (R103). -/
theorem execGfinit_effect (s : State) (sa sb : SReg) :
    (∃ e, (Effect.error e).Describes (.gfinit sa sb) s) ∨ (∃ e, (Effect.noField e).Describes (.gfinit sa sb) s) ∨
      ∃ m prim, (Effect.field m prim).Describes (.gfinit sa sb) s := by
  cases hr : gfinitOperands sa sb s with
  | error e => exact .inl ⟨e, trivial, fun σ _ => exec_gfinit_of_error (s := s.withStatus σ) hr⟩
  | ok xy =>
    have hrun := fun σ => exec_gfinit_of_ok (s := s.withStatus σ) (x := xy.1) (y := xy.2) hr
    simp only [constructField_eq] at hrun
    cases hc : checkConstruction s.defaultPrims xy.1.toInt xy.2.toInt with
    | error e =>
      refine .inr (.inl ⟨e, ⟨⟨sa, sb, rfl⟩, checkConstruction_error hc⟩, fun σ _ => ?_⟩)
      rw [hrun]
      exact finish_eq_raise (bind_eq_error.2 (.inl hc))
    | ok p =>
      obtain ⟨m, prim⟩ := p
      obtain ⟨⟨hm2, hm8⟩, hm, -, hshift, hprim⟩ := checkConstruction_eq_ok.1 hc
      have hbounds : Config.mMin ≤ m ∧ m ≤ Config.mMax := by dsimp only at hm; omega
      refine .inr (.inr ⟨m, prim, ⟨⟨sa, sb, rfl⟩, hbounds, hshift, hprim⟩, fun σ _ => ?_⟩)
      rw [hrun]
      exact finish_eq_complete (bind_eq_ok.2 ⟨(m, prim), hc, rfl⟩)

/-- The operand of `BCHINIT`, which it reads before the old codec ends (R158). -/
def bchinitOperand (sa : SReg) (s : State) : Except Err Word := do
  requireState s 1
  readS s sa

theorem exec_bchinit_of_error {sa : SReg} {s : State} {e : Err} (h : bchinitOperand sa s = .error e) :
    exec (.bchinit sa) s = .next (raise e s) := by
  rw [bchinitOperand] at h
  show execBchinit sa s = _
  rw [execBchinit, h]
  rfl

theorem exec_bchinit_of_ok {sa : SReg} {s : State} {x : Word} (h : bchinitOperand sa s = .ok x) :
    exec (.bchinit sa) s = finish s.dropCodec (constructCodec s.dropCodec x) := by
  rw [bchinitOperand] at h
  show execBchinit sa s = _
  rw [execBchinit, h]

/-- `BCHINIT`: an error before the old codec ends, a codec that cannot be built, or a codec (R158). -/
theorem execBchinit_effect (s : State) (sa : SReg) : ∃ E : Effect, E.Describes (.bchinit sa) s := by
  cases hr : bchinitOperand sa s with
  | error e => exact ⟨.error e, trivial, fun σ _ => exec_bchinit_of_error (s := s.withStatus σ) hr⟩
  | ok x =>
    obtain ⟨_, hstate, -⟩ := bind_eq_ok.1 hr
    have hready : 1 ≤ s.state.toNat := ensure_eq_ok.1 hstate
    have hrun := fun σ => exec_bchinit_of_ok (s := s.withStatus σ) (x := x) hr
    cases ht : capability s x with
    | error e =>
      refine ⟨.noCodec e, ⟨⟨sa, rfl⟩, hready⟩, fun σ _ => ?_⟩
      rw [hrun]
      exact finish_eq_raise (bind_eq_error.2 (.inl ht))
    | ok t =>
      obtain ⟨hlegal, htx⟩ := capability_eq_ok.1 ht
      cases hg : genPoly s.field s.vlmax.toNat t with
      | error e =>
        refine ⟨.noCodec e, ⟨⟨sa, rfl⟩, hready⟩, fun σ _ => ?_⟩
        rw [hrun]
        exact finish_eq_raise (bind_eq_error.2 (.inr ⟨t, ht, bind_eq_error.2 (.inl hg)⟩))
      | ok g =>
        refine ⟨.codec t g, ⟨⟨sa, rfl⟩, hready, by omega, hg⟩, fun σ _ => ?_⟩
        rw [hrun]
        refine finish_eq_complete (bind_eq_ok.2 ⟨t, ht, ?_⟩)
        exact bind_eq_ok.2 ⟨g, hg, rfl⟩

/-- Every command has one of the effects of `Effect.Allowed`. For all but four its rule is followed from check to check
up to its writes. -/
theorem exec_effect (i : Instr) (s : State) : ∃ E : Effect, E.Describes i s := by
  cases i with
  | rdcr sd cr => exact execRdcr_effect s sd cr
  | clrerr => exact ⟨_, execClrerr_describes s⟩
  | gfinit sa sb =>
    rcases execGfinit_effect s sa sb with ⟨_, h⟩ | ⟨_, h⟩ | ⟨_, _, h⟩
    · exact ⟨_, h⟩
    · exact ⟨_, h⟩
    · exact ⟨_, h⟩
  | bchinit sa => exact execBchinit_effect s sa
  | nop => exact effect_of_rule (fun _ => rfl) (.done (fun _ => []) (fun _ => rfl) (by simp))
  | sli => exact effect_of_rule (fun _ => rfl) (.scalar fun _ => rfl)
  | smov | vlen | pdeg => exact effect_of_rule (fun _ => rfl) (.check fun _ _ => .scalar fun _ => rfl)
  | vget | ldexp | ldlog =>
    exact effect_of_rule (fun _ => rfl) (.check fun _ _ => .check fun _ _ => .check fun _ _ => .scalar fun _ => rfl)
  | gfpow | gfinv =>
    exact effect_of_rule (fun _ => rfl)
      (.check fun _ _ => .check fun _ _ => .check fun _ _ => .check fun _ _ => .scalar fun _ => rfl)
  | gfadd | gfmul =>
    exact effect_of_rule (fun _ => rfl)
      (.check fun _ _ => .check fun _ _ => .check fun _ _ => .check fun _ _ => .check fun _ _ => .scalar fun _ => rfl)
  | rsverify =>
    exact effect_of_rule (fun _ => rfl)
      (.check fun _ _ => .check fun _ _ => .check fun _ _ => .check fun _ _ => .check fun _ _ => .check fun _ _ =>
        .scalar fun _ => rfl)
  | vmov _ va =>
    exact effect_of_rule (fun _ => rfl)
      (.check fun _ ha => .vector (fun _ => rfl) (.inr ⟨va, by simp [(readV_eq_ok (s := s)).1 ha]⟩))
  | vzero =>
    exact effect_of_rule (fun _ => rfl)
      (.check fun l _ => .check fun _ _ => .check fun _ hl => .vector (fun _ => rfl) <| .inl <| by
        have hl : l.toInt ≤ s.vlmax.toNat := ensure_eq_ok.1 hl
        simpa using hl)
  | vset vd =>
    exact effect_of_rule (fun _ => rfl)
      (.check fun _ _ => .check fun _ _ => .check fun _ ho => .check fun _ _ => .check fun _ _ =>
        .vector (fun _ => rfl) (.inr ⟨vd, by simp [(readV_eq_ok (s := s)).1 ho]⟩))
  | ldgen => exact effect_of_rule (fun _ => rfl) (.check fun _ _ => .onePutV)
  | minpoly | synd =>
    exact effect_of_rule (fun _ => rfl) (.check fun _ _ => .check fun _ _ => .check fun _ _ => .onePutV)
  | genpoly | enc =>
    exact effect_of_rule (fun _ => rfl)
      (.check fun _ _ => .check fun _ _ => .check fun _ _ => .check fun _ _ => .onePutV)
  | pmul | pgcd | rsinterp =>
    exact effect_of_rule (fun _ => rfl)
      (.check fun _ _ => .check fun _ _ => .check fun _ _ => .check fun _ _ => .check fun _ _ => .onePutV)
  | plcm =>
    exact effect_of_rule (fun _ => rfl)
      (.check fun _ _ => .check fun _ _ => .check fun _ _ => .check fun _ _ => .check fun _ _ => .check fun _ _ =>
        .onePutV)
  | cosets =>
    exact effect_of_rule (fun _ => rfl)
      (.check fun _ _ => .check fun _ _ => .check fun _ _ => .check fun _ _ => .twoPutV)
  | pdiv =>
    exact effect_of_rule (fun _ => rfl)
      (.check fun _ _ => .check fun _ _ => .check fun _ _ => .check fun _ _ => .check fun _ _ => .check fun _ _ =>
        .check fun _ _ => .twoPutV)
  | chien vd sd =>
    exact effect_of_rule (fun _ => rfl)
      (.check fun _ _ => .check fun _ _ => .check fun _ _ => .putV fun h =>
        .done (fun _ => [.vector vd _, .scalar sd _]) (fun _ => rfl) (by simpa using Write.fits_of_length_le h))
  | peterson vd sd =>
    exact effect_of_rule (fun _ => rfl)
      (.check fun _ _ => .check fun _ _ => .check fun _ _ => .check fun _ _ => .putV fun h =>
        .done (fun _ => [.vector vd _, .scalar sd _]) (fun _ => rfl) (by simpa using Write.fits_of_length_le h))
  | dec =>
    exact effect_of_rule (fun _ => rfl)
      (.check fun _ _ => .check fun _ _ => .check fun _ _ => .check fun _ _ =>
        putDecoded_onlyWrites _ _ _ (bchDecode_reason_le _ _))
  | decbm =>
    exact effect_of_rule (fun _ => rfl)
      (.check fun _ _ => .check fun _ _ => .check fun _ _ => .check fun _ _ =>
        putDecoded_onlyWrites _ _ _ (bchDecodeBM_reason_le _ _))
  | decmg =>
    exact effect_of_rule (fun _ => rfl)
      (.check fun _ _ => .check fun _ _ => .check fun _ _ => .check fun _ _ => .check fun _ hd =>
        putDecoded_onlyWrites _ _ _ (meggittLoop_reason_le hd))
  | rsdec vc sl se =>
    exact effect_of_rule (fun _ => rfl)
      (.check fun _ _ => .check fun _ _ => .check fun _ _ => .check fun _ _ => .check fun _ _ => .check fun _ _ =>
        .check fun _ _ => .putV fun h => .done (fun _ => [.vector vc _, .scalar sl _, .scalar se _]) (fun _ => rfl)
          (by simpa using Write.fits_of_length_le h))
  | rsdecmv vc vl se =>
    exact effect_of_rule (fun _ => rfl)
      (.check fun _ _ => .check fun _ _ => .check fun _ _ => .check fun _ _ => .check fun _ _ => .check fun _ _ =>
        .check fun _ _ => .check fun _ _ => .putV fun h => .putV fun h' =>
          .done (fun _ => [.vector vc _, .vector vl _, .scalar se _]) (fun _ => rfl)
            (by simpa using ⟨Write.fits_of_length_le h, Write.fits_of_length_le h'⟩))

/-- The state in which a command ends is the one its effect makes. -/
theorem exec_eq_next {i : Instr} {s t : State} (h : exec i s = .next t) :
    ∃ E : Effect, E.Allowed i s ∧ t = E.run s := by
  obtain ⟨E, hE⟩ := exec_effect i s
  rw [hE.exec_eq] at h
  cases h
  exact ⟨E, hE.1, rfl⟩

end Sys2Proof.Machine
end


section
/-! SUPPORT. What the effects of commands change and leave alone. -/

namespace Sys2Proof.Machine

/-- Writes change operand registers and `DREASON`, and nothing else. -/
theorem applyWrites_eq (s : State) (ws : List Write) : applyWrites s ws =
    { s with scalars := (applyWrites s ws).scalars, vectors := (applyWrites s ws).vectors,
             dreason := (applyWrites s ws).dreason } := by
  induction ws generalizing s with
  | nil => rfl
  | cons w ws ih =>
    show applyWrites (w.apply s) ws = _
    rw [ih]
    cases w <;> rfl

section
variable (s : State) (ws : List Write)

@[simp] theorem applyWrites_exp : (applyWrites s ws).exp = s.exp := by rw [applyWrites_eq]
@[simp] theorem applyWrites_log : (applyWrites s ws).log = s.log := by rw [applyWrites_eq]
@[simp] theorem applyWrites_gen : (applyWrites s ws).gen = s.gen := by rw [applyWrites_eq]
@[simp] theorem applyWrites_m : (applyWrites s ws).m = s.m := by rw [applyWrites_eq]
@[simp] theorem applyWrites_prim : (applyWrites s ws).prim = s.prim := by rw [applyWrites_eq]
@[simp] theorem applyWrites_n : (applyWrites s ws).n = s.n := by rw [applyWrites_eq]
@[simp] theorem applyWrites_t : (applyWrites s ws).t = s.t := by rw [applyWrites_eq]
@[simp] theorem applyWrites_k : (applyWrites s ws).k = s.k := by rw [applyWrites_eq]
@[simp] theorem applyWrites_state : (applyWrites s ws).state = s.state := by rw [applyWrites_eq]
@[simp] theorem applyWrites_ident : (applyWrites s ws).ident = s.ident := by rw [applyWrites_eq]
@[simp] theorem applyWrites_feat : (applyWrites s ws).feat = s.feat := by rw [applyWrites_eq]
@[simp] theorem applyWrites_vlmax : (applyWrites s ws).vlmax = s.vlmax := by rw [applyWrites_eq]
@[simp] theorem applyWrites_rsp : (applyWrites s ws).rsp = s.rsp := by rw [applyWrites_eq]
@[simp] theorem applyWrites_defaultPrims : (applyWrites s ws).defaultPrims = s.defaultPrims :=
  by rw [applyWrites_eq]
@[simp] theorem applyWrites_port : (applyWrites s ws).port = s.port := by rw [applyWrites_eq]
@[simp] theorem applyWrites_reply : (applyWrites s ws).reply = s.reply := by rw [applyWrites_eq]
@[simp] theorem applyWrites_freeIdx : (applyWrites s ws).freeIdx = s.freeIdx := by rw [applyWrites_eq]
@[simp] theorem applyWrites_errsticky : (applyWrites s ws).errsticky = s.errsticky :=
  by rw [applyWrites_eq]

end

/-! ### Registers after writes -/

theorem setScalar_valid {s : State} {r q : SReg} {x : Word} (h : q = r ∨ s.scalars[q].valid = true) :
    (s.setScalar r x).scalars[q].valid = true := by
  by_cases hq : q = r
  · subst hq
    simp
  · rw [scalars_setScalar_ne s x hq]
    exact h.resolve_left hq

theorem setVector_valid {s : State} {r q : VReg} {xs : List Byte} (h : q = r ∨ s.vectors[q].valid = true) :
    (s.setVector r xs).vectors[q].valid = true := by
  by_cases hq : q = r
  · subst hq
    simp
  · rw [vectors_setVector_ne s xs hq]
    exact h.resolve_left hq

/-- A scalar register is valid after writes when one of them went to it or it was valid before (R23). -/
theorem applyWrites_scalar_valid {s : State} {ws : List Write} {r : SReg}
    (h : r ∈ ws.filterMap Write.scalarTarget ∨ s.scalars[r].valid = true) :
    (applyWrites s ws).scalars[r].valid = true := by
  induction ws generalizing s with
  | nil => simpa [applyWrites] using h
  | cons w ws ih =>
    refine ih (s := w.apply s) ?_
    cases w with
    | scalar q x =>
      simp only [List.filterMap_cons, Write.scalarTarget, List.mem_cons, or_assoc] at h
      rcases h with h | h | h
      · exact .inr (setScalar_valid (.inl h))
      · exact .inl h
      · exact .inr (setScalar_valid (.inr h))
    | vector q xs => exact h
    | reason d => exact h

/-- A vector register is valid after writes when one of them went to it or it was valid before (R23). -/
theorem applyWrites_vector_valid {s : State} {ws : List Write} {r : VReg}
    (h : r ∈ ws.filterMap Write.vectorTarget ∨ s.vectors[r].valid = true) :
    (applyWrites s ws).vectors[r].valid = true := by
  induction ws generalizing s with
  | nil => simpa [applyWrites] using h
  | cons w ws ih =>
    refine ih (s := w.apply s) ?_
    cases w with
    | vector q xs =>
      simp only [List.filterMap_cons, Write.vectorTarget, List.mem_cons, or_assoc] at h
      rcases h with h | h | h
      · exact .inr (setVector_valid (.inl h))
      · exact .inl h
      · exact .inr (setVector_valid (.inr h))
    | scalar q x => exact h
    | reason d => exact h

/-- A scalar register to which no write goes keeps its contents. -/
theorem applyWrites_scalar_of_notMem {s : State} {ws : List Write} {r : SReg}
    (h : r ∉ ws.filterMap Write.scalarTarget) : (applyWrites s ws).scalars[r] = s.scalars[r] := by
  induction ws generalizing s with
  | nil => rfl
  | cons w ws ih =>
    cases w with
    | scalar q x =>
      obtain ⟨hq, hws⟩ := List.ne_and_not_mem_of_not_mem_cons h
      exact (ih (s := s.setScalar q x) hws).trans (scalars_setScalar_ne s x hq)
    | vector q xs => exact ih (s := s.setVector q xs) h
    | reason d => exact ih (s := s.setReason d) h

/-- A vector register to which no write goes keeps its contents. -/
theorem applyWrites_vector_of_notMem {s : State} {ws : List Write} {r : VReg}
    (h : r ∉ ws.filterMap Write.vectorTarget) : (applyWrites s ws).vectors[r] = s.vectors[r] := by
  induction ws generalizing s with
  | nil => rfl
  | cons w ws ih =>
    cases w with
    | vector q xs =>
      obtain ⟨hq, hws⟩ := List.ne_and_not_mem_of_not_mem_cons h
      exact (ih (s := s.setVector q xs) hws).trans (vectors_setVector_ne s xs hq)
    | scalar q x => exact ih (s := s.setScalar q x) h
    | reason d => exact ih (s := s.setReason d) h

/-! ### Effects and the status registers -/

/-- Writes to states that differ in the status registers lead to states that differ there alone. -/
theorem applyWrites_withStatus (s : State) (ws : List Write) (σ : Status) :
    ∃ τ, applyWrites (s.withStatus σ) ws = (applyWrites s ws).withStatus τ := by
  induction ws generalizing s σ with
  | nil => exact ⟨σ, rfl⟩
  | cons w ws ih =>
    cases w with
    | scalar r x => exact ih (s.setScalar r x) σ
    | vector r xs => exact ih (s.setVector r xs) σ
    | reason d => exact ih (s.setReason d) ⟨σ.err, σ.errsticky, d⟩

/-- An effect on states that differ in the status registers leads to states that differ in `ERRSTICKY` and `DREASON`
alone. -/
theorem Effect.run_withStatus (E : Effect) (s : State) (σ : Status) :
    ∃ y d, E.run (s.withStatus σ) = { E.run s with errsticky := y, dreason := d } := by
  cases E with
  | writes ws =>
    obtain ⟨τ, h⟩ := applyWrites_withStatus s ws σ
    exact ⟨τ.errsticky, τ.dreason, by simp only [Effect.run, h]; rfl⟩
  | error e => exact ⟨_, _, rfl⟩
  | clear => exact ⟨_, _, rfl⟩
  | noField e => exact ⟨_, _, rfl⟩
  | field m prim => exact ⟨_, _, rfl⟩
  | noCodec e => exact ⟨_, _, rfl⟩
  | codec t g => exact ⟨_, _, rfl⟩

/-- Settles O13: both commands have the effect that `exec_effect` gives for the first state. -/
theorem statusNeverInfluencesResults : Obligations.StatusNeverInfluencesResults := by
  unfold Obligations.StatusNeverInfluencesResults
  intro i s s' t t' hfree hs' ht ht'
  obtain ⟨E, hE⟩ := exec_effect i s
  have hwith : s' = s.withStatus s'.status := hs'
  rw [hE.exec_eq] at ht
  rw [hwith, hE.2 _ (.inl hfree)] at ht'
  obtain ⟨y, d, hrun⟩ := E.run_withStatus s s'.status
  cases ht
  cases ht'
  rw [hrun]

/-! ### What every effect leaves alone -/

/-- No effect changes a constant of the build. -/
theorem Effect.run_constants (E : Effect) (s : State) :
    (E.run s).ident = s.ident ∧ (E.run s).feat = s.feat ∧ (E.run s).vlmax = s.vlmax ∧ (E.run s).rsp = s.rsp ∧
      (E.run s).defaultPrims = s.defaultPrims := by
  cases E <;> simp [Effect.run]

/-- No effect touches the model's own fields. -/
theorem Effect.run_own (E : Effect) (s : State) :
    (E.run s).port = s.port ∧ (E.run s).reply = s.reply ∧ (E.run s).freeIdx = s.freeIdx := by
  cases E <;> simp [Effect.run]

/-- An effect that a command can have changes no scalar register but its destinations. -/
theorem Effect.Allowed.run_scalar {E : Effect} {i : Instr} {s : State} (h : E.Allowed i s) {r : SReg}
    (hr : r ∉ i.scalarDests) : (E.run s).scalars[r] = s.scalars[r] := by
  cases E with
  | writes ws => exact applyWrites_scalar_of_notMem (by rwa [h.scalars])
  | _ => rfl

/-- An effect that a command can have changes no vector register but its destinations. -/
theorem Effect.Allowed.run_vector {E : Effect} {i : Instr} {s : State} (h : E.Allowed i s) {r : VReg}
    (hr : r ∉ i.vectorDests) : (E.run s).vectors[r] = s.vectors[r] := by
  cases E with
  | writes ws => exact applyWrites_vector_of_notMem (by rwa [h.vectors])
  | _ => rfl

/-- Settles O11: a command has an allowed effect, whose writes go to its destinations. -/
theorem onlyDestinationsChange : Obligations.OnlyDestinationsChange := by
  unfold Obligations.OnlyDestinationsChange
  intro i s t h
  obtain ⟨E, hE, rfl⟩ := exec_eq_next h
  exact ⟨fun _ hr => hE.run_scalar hr, fun _ hr => hE.run_vector hr, E.run_own s⟩

/-- No effect makes a written scalar register unwritten (R23). -/
theorem Effect.run_scalar_valid (E : Effect) {s : State} {r : SReg} (h : s.scalars[r].valid = true) :
    (E.run s).scalars[r].valid = true := by
  cases E with
  | writes ws => exact applyWrites_scalar_valid (.inr h)
  | _ => exact h

/-- No effect makes a written vector register unwritten (R23). -/
theorem Effect.run_vector_valid (E : Effect) {s : State} {r : VReg} (h : s.vectors[r].valid = true) :
    (E.run s).vectors[r].valid = true := by
  cases E with
  | writes ws => exact applyWrites_vector_valid (.inr h)
  | _ => exact h

/-- Raising an error leaves its code in `ERR`, and no code is 0 (R301, R305). -/
theorem raise_err_ne_zero (e : Err) (s : State) : (raise e s).err ≠ 0 := by
  rw [raise_err]
  cases e <;> simp [Err.code]

/-- A command that raises nothing leaves its destinations written (R23). -/
theorem Effect.Allowed.dests_valid {E : Effect} {i : Instr} {s : State} (h : E.Allowed i s) (herr : (E.run s).err = 0) :
    (∀ r ∈ i.scalarDests, (E.run s).scalars[r].valid = true) ∧
      (∀ r ∈ i.vectorDests, (E.run s).vectors[r].valid = true) := by
  cases E with
  | error e => exact absurd herr (raise_err_ne_zero e s)
  | noField e => exact absurd herr (raise_err_ne_zero e _)
  | noCodec e => exact absurd herr (raise_err_ne_zero e _)
  | writes ws =>
    exact ⟨fun _ hr => applyWrites_scalar_valid (.inl (by rwa [h.scalars])),
      fun _ hr => applyWrites_vector_valid (.inl (by rwa [h.vectors]))⟩
  | clear =>
    obtain rfl : i = .clrerr := h
    exact ⟨List.forall_mem_nil _, List.forall_mem_nil _⟩
  | field m prim =>
    obtain ⟨⟨sa, sb, rfl⟩, -⟩ := h
    exact ⟨List.forall_mem_nil _, List.forall_mem_nil _⟩
  | codec t g =>
    obtain ⟨⟨sa, rfl⟩, -⟩ := h
    exact ⟨List.forall_mem_nil _, List.forall_mem_nil _⟩

/-- A command that is no `GFINIT` leaves the field's tables and parameters alone (R38). -/
theorem Effect.Allowed.run_field {E : Effect} {i : Instr} {s : State} (h : E.Allowed i s)
    (hi : ∀ sa sb, i ≠ .gfinit sa sb) :
    (E.run s).exp = s.exp ∧ (E.run s).log = s.log ∧ (E.run s).m = s.m ∧ (E.run s).prim = s.prim ∧
      (E.run s).n = s.n := by
  cases E with
  | noField e | field m prim =>
    obtain ⟨⟨sa, sb, rfl⟩, -⟩ := h
    exact absurd rfl (hi sa sb)
  | writes ws => simp [Effect.run]
  | _ => exact ⟨rfl, rfl, rfl, rfl, rfl⟩

/-- A command that is neither `GFINIT` nor `BCHINIT` leaves the codec's generator and parameters and `STATE` alone
(R38). -/
theorem Effect.Allowed.run_codec {E : Effect} {i : Instr} {s : State} (h : E.Allowed i s)
    (hf : ∀ sa sb, i ≠ .gfinit sa sb) (hc : ∀ sa, i ≠ .bchinit sa) :
    (E.run s).gen = s.gen ∧ (E.run s).t = s.t ∧ (E.run s).k = s.k ∧ (E.run s).state = s.state := by
  cases E with
  | noField e | field m prim =>
    obtain ⟨⟨sa, sb, rfl⟩, -⟩ := h
    exact absurd rfl (hf sa sb)
  | noCodec e | codec t g =>
    obtain ⟨⟨sa, rfl⟩, -⟩ := h
    exact absurd rfl (hc sa)
  | writes ws => simp [Effect.run]
  | _ => exact ⟨rfl, rfl, rfl, rfl⟩

end Sys2Proof.Machine
end


section
/-! SUPPORT. One step of the machine: what it can do, said once, and the statements about steps and the host's reads and
writes. -/

namespace Sys2Proof.Machine

/-! ### The host port -/

/-- A read of a written scalar register (R45). -/
theorem hostReadS_of_written {i : SReg} {s : State} {x : Word} (h : holdsS s i x) :
    hostReadS i s = s.answer (.scalar true x) := by
  have h : s.scalars[i] = ⟨true, x⟩ := h
  rw [hostReadS, h]
  rfl

/-- A read of an unwritten scalar register uses up a free value (R45; log entry 4). -/
theorem hostReadS_of_unwritten {i : SReg} {s : State} (h : unwrittenS s i) :
    hostReadS i s = s.useFree.answer (.scalar false (Config.freeScalar s.freeIdx)) :=
  if_neg (ne_true_of_eq_false h)

/-- A read of a written vector register (R45). -/
theorem hostReadV_of_written {i : VReg} {s : State} {xs : List Byte} (h : holdsV s i xs) :
    hostReadV i s = s.answer (vectorReply true xs) := by
  have h : s.vectors[i] = ⟨true, xs⟩ := h
  rw [hostReadV, h]
  rfl

/-- A read of an unwritten vector register uses up a free value (R45; log entry 4). -/
theorem hostReadV_of_unwritten {i : VReg} {s : State} (h : unwrittenV s i) :
    hostReadV i s = s.useFree.answer (vectorReply false ((Config.freeVector s.freeIdx).take s.vlmax.toNat)) :=
  if_neg (ne_true_of_eq_false h)

/-- A write of a vector register that is allowed (R45). -/
theorem hostWriteV_of_fits {i : VReg} {seq : List Int} {s : State}
    (h : seq.length ≤ s.vlmax.toNat ∧ ∀ x ∈ seq, 0 ≤ x ∧ x ≤ 255) :
    hostWriteV i seq s = (s.setVector i (seq.map (BitVec.ofInt 8))).answer .nothing := if_pos h

/-- A write of a vector register that is not performed (R45; log entry 19). -/
theorem hostWriteV_of_not_fits {i : VReg} {seq : List Int} {s : State}
    (h : ¬ (seq.length ≤ s.vlmax.toNat ∧ ∀ x ∈ seq, 0 ≤ x ∧ x ≤ 255)) : hostWriteV i seq s = s.answer .nothing :=
  if_neg h

/-- A read of a control register changes nothing of the engine (R45). -/
theorem hostReadCR_eq (c : Nat) (s : State) : ∃ v, hostReadCR c s = s.answer (.control v) := by
  simp only [hostReadCR]
  split
  · exact ⟨_, rfl⟩
  · exact ⟨_, rfl⟩

/-- The operation a step performs is the next one of the port. -/
theorem takeOp_cons {s : State} {op : HostOp} {rest : List HostOp} (h : s.port = op :: rest) :
    takeOp s = some (op, { s with port := rest }) := by
  simp only [takeOp, h]

section
variable {s : State} {rest : List HostOp}

theorem step_issue {w : Word} (h : s.port = .issue w :: rest) : step s = issue w { s with port := rest } := by
  simp only [step, takeOp_cons h]

theorem step_readS {i : SReg} (h : s.port = .readS i :: rest) :
    step s = .next (hostReadS i { s with port := rest }) := by
  simp only [step, takeOp_cons h]

theorem step_writeS {i : SReg} {x : Word} (h : s.port = .writeS i x :: rest) :
    step s = .next (hostWriteS i x { s with port := rest }) := by
  simp only [step, takeOp_cons h]

theorem step_readV {i : VReg} (h : s.port = .readV i :: rest) :
    step s = .next (hostReadV i { s with port := rest }) := by
  simp only [step, takeOp_cons h]

theorem step_writeV {i : VReg} {seq : List Int} (h : s.port = .writeV i seq :: rest) :
    step s = .next (hostWriteV i seq { s with port := rest }) := by
  simp only [step, takeOp_cons h]

theorem step_readCR {c : Nat} (h : s.port = .readCR c :: rest) :
    step s = .next (hostReadCR c { s with port := rest }) := by
  simp only [step, takeOp_cons h]

theorem step_reset (h : s.port = .reset :: rest) : step s = .next (hostReset { s with port := rest }) := by
  simp only [step, takeOp_cons h]

/-- A word that spells no command only raises `IllegalCommand` (R77). -/
theorem step_illegal {w : Word} {e : DecodeError} (h : s.port = .issue w :: rest) (hd : decode s.feat w = .error e) :
    step s = .next ((raise .illegalCommand { s with port := rest }).answer (.err 6)) := by
  rw [step_issue h]
  simp only [issue, hd]
  rfl

/-- A word that decodes runs its command, and the host is answered the new `ERR` (R45). -/
theorem step_command {w : Word} {i : Instr} {u : State} (h : s.port = .issue w :: rest) (hd : decode s.feat w = .ok i)
    (hu : exec i { s with port := rest } = .next u) : step s = .next (u.answer (.err u.err)) := by
  rw [step_issue h]
  simp only [issue, hd, hu]
  rfl

end

/-- Settles O6, by the equation of a step that issues a word. -/
theorem stepRunsTheDecodedCommand : Obligations.StepRunsTheDecodedCommand := by
  unfold Obligations.StepRunsTheDecodedCommand
  intro s t w rest i hp hd ht
  exact step_command hp hd ht

/-- Settles O17, by the equations of the two host writes. -/
theorem hostWritesRegisters : Obligations.HostWritesRegisters := by
  unfold Obligations.HostWritesRegisters
  intro s rest
  refine ⟨fun i x hp => step_writeS hp, fun i seq hp => ⟨fun hfit => ?_, fun hfit => ?_⟩⟩
  · exact (step_writeV hp).trans (congrArg _ (hostWriteV_of_fits (s := { s with port := rest }) hfit))
  · exact (step_writeV hp).trans (congrArg _ (hostWriteV_of_not_fits (s := { s with port := rest }) hfit))

/-- `RDCR` writes the value of the control register, or raises the error of the read (R263). -/
theorem exec_rdcr_eq (sd : SReg) (c : BitVec 16) (s : State) :
    exec (.rdcr sd c) s = finish s (readCR s c.toNat >>= fun x => .ok (s.setScalar sd x)) := rfl

/-- `HostReadCR` answers what `RDCR` leaves in its destination, or no value where `RDCR` raises an error (R45, R263). -/
theorem hostReadCR_of_exec_rdcr {sd : SReg} {c : BitVec 16} {s t : State} (h : exec (.rdcr sd c) s = .next t) :
    hostReadCR c.toNat s = s.answer (.control (if t.err = 0 then some t.scalars[sd].data else none)) := by
  rw [exec_rdcr_eq] at h
  rw [hostReadCR]
  cases hv : readCR s c.toNat with
  | error e =>
    rw [hv] at h
    cases h
    rw [if_neg (raise_err_ne_zero e s)]
  | ok x =>
    rw [hv] at h
    cases h
    have hd : (complete (s.setScalar sd x)).scalars[sd].data = x := by simp
    rw [if_pos (complete_err _), hd]

/-- Settles O18, by the equations of the three host reads. -/
theorem hostReadsRegisters : Obligations.HostReadsRegisters := by
  unfold Obligations.HostReadsRegisters
  intro s rest
  refine ⟨fun i x hp hx => ?_, fun i hp hx => ?_, fun i xs hp hx => ?_, fun i hp hx => ?_, fun c sd t hp ht => ?_⟩
  · exact (step_readS hp).trans (congrArg _ (hostReadS_of_written (s := { s with port := rest }) hx))
  · exact ⟨_, (step_readS hp).trans (congrArg _ (hostReadS_of_unwritten (s := { s with port := rest }) hx))⟩
  · exact (step_readV hp).trans (congrArg _ (hostReadV_of_written (s := { s with port := rest }) hx))
  · exact ⟨_, List.length_take_le .., (step_readV hp).trans
      (congrArg _ (hostReadV_of_unwritten (s := { s with port := rest }) hx))⟩
  · have hread : hostReadCR c.toNat { s with port := rest } = { hostReadCR c.toNat s with port := rest } := by
      have hsame : readCR { s with port := rest } c.toNat = readCR s c.toNat := rfl
      rw [hostReadCR, hostReadCR, hsame]
      cases readCR s c.toNat <;> rfl
    rw [step_readCR hp, hread, hostReadCR_of_exec_rdcr ht]
    rfl

/-! ### What a step can do -/

/-- What a step can do (R45): wait, refuse a word, execute a command, write at most a register for the host or read for
it, or reset. -/
inductive StepTo (s : State) : State → Prop where
  | waits : s.port = [] → StepTo s s
  | illegal {w : Word} {rest : List HostOp} {e : DecodeError} : s.port = .issue w :: rest → decode s.feat w = .error e →
      StepTo s ((raise .illegalCommand { s with port := rest }).answer (.err 6))
  | command {w : Word} {rest : List HostOp} {i : Instr} {E : Effect} : s.port = .issue w :: rest →
      decode s.feat w = .ok i → E.Allowed i { s with port := rest } →
      StepTo s ((E.run { s with port := rest }).answer (.err (E.run { s with port := rest }).err))
  | access {op : HostOp} {ws : List Write} {rest : List HostOp} {r : HostReply} {n : Nat} : s.port = op :: rest →
      op ≠ .reset → (∀ w ∈ ws, w.Fits s) → StepTo s { applyWrites s ws with port := rest, reply := r, freeIdx := n }
  | reset {rest : List HostOp} : s.port = .reset :: rest → StepTo s (hostReset { s with port := rest })

/-- Every step is one of `StepTo`. -/
theorem stepTo_of_step {s t : State} (h : step s = .next t) : StepTo s t := by
  cases hp : s.port with
  | nil =>
    simp only [step, takeOp, hp] at h
    cases h
    exact .waits hp
  | cons op rest =>
    cases op with
    | issue w =>
      cases hd : decode s.feat w with
      | error e =>
        rw [step_illegal hp hd] at h
        cases h
        exact .illegal hp hd
      | ok i =>
        obtain ⟨E, hE⟩ := exec_effect i { s with port := rest }
        rw [step_command hp hd hE.exec_eq] at h
        cases h
        exact .command hp hd hE.1
    | readS i =>
      rw [step_readS hp] at h
      cases h
      simp only [hostReadS]
      split
      · exact .access (ws := []) hp nofun (by simp)
      · exact .access (ws := []) hp nofun (by simp)
    | writeS i x =>
      rw [step_writeS hp] at h
      cases h
      exact .access (ws := [.scalar i x]) hp nofun (by simp)
    | readV i =>
      rw [step_readV hp] at h
      cases h
      simp only [hostReadV]
      split
      · exact .access (ws := []) hp nofun (by simp)
      · exact .access (ws := []) hp nofun (by simp)
    | writeV i seq =>
      rw [step_writeV hp] at h
      cases h
      by_cases hfit : seq.length ≤ s.vlmax.toNat ∧ ∀ x ∈ seq, 0 ≤ x ∧ x ≤ 255
      · rw [hostWriteV_of_fits (s := { s with port := rest }) hfit]
        exact .access (ws := [.vector i (seq.map (BitVec.ofInt 8))]) hp nofun
          (by simpa [Write.Fits] using Or.inl hfit.1)
      · rw [hostWriteV_of_not_fits (s := { s with port := rest }) hfit]
        exact .access (ws := []) hp nofun (by simp)
    | readCR c =>
      rw [step_readCR hp] at h
      cases h
      obtain ⟨v, hv⟩ := hostReadCR_eq c { s with port := rest }
      rw [hv]
      exact .access (ws := []) hp nofun (by simp)
    | reset =>
      rw [step_reset hp] at h
      cases h
      exact .reset hp

/-- No step but a reset makes a written register unwritten (R23). -/
theorem StepTo.registers_valid {s t : State} (h : StepTo s t) (hr : s.port.head? ≠ some .reset) :
    (∀ r : SReg, s.scalars[r].valid = true → t.scalars[r].valid = true) ∧
      (∀ r : VReg, s.vectors[r].valid = true → t.vectors[r].valid = true) := by
  cases h with
  | waits _ => exact ⟨fun _ h => h, fun _ h => h⟩
  | illegal _ _ => exact ⟨fun _ h => h, fun _ h => h⟩
  | @command _ rest _ E _ _ _ =>
    exact ⟨fun _ h => E.run_scalar_valid (s := { s with port := rest }) h,
      fun _ h => E.run_vector_valid (s := { s with port := rest }) h⟩
  | access _ _ _ =>
    exact ⟨fun _ h => applyWrites_scalar_valid (s := s) (.inr h), fun _ h => applyWrites_vector_valid (s := s) (.inr h)⟩
  | reset hp => exact absurd (by rw [hp]; rfl) hr

/-- No step changes a constant of the build (R37). -/
theorem StepTo.constants {s t : State} (h : StepTo s t) :
    t.ident = s.ident ∧ t.feat = s.feat ∧ t.vlmax = s.vlmax ∧ t.rsp = s.rsp ∧ t.defaultPrims = s.defaultPrims := by
  cases h with
  | @command _ rest _ E _ _ _ => exact E.run_constants { s with port := rest }
  | access _ _ _ => simp
  | _ => exact ⟨rfl, rfl, rfl, rfl, rfl⟩

/-- Settles O12: the only steps that run a command are those that issue one, and only the two constructions have an
effect on what is configured. -/
theorem onlyConstructorsWriteTables : Obligations.OnlyConstructorsWriteTables := by
  unfold Obligations.OnlyConstructorsWriteTables
  intro s t h hr hf
  cases stepTo_of_step h with
  | @command w rest i E hp hd hE =>
    have hhead : s.port.head? = some (.issue w) := by rw [hp]; rfl
    have hnf : ∀ sa sb, i ≠ .gfinit sa sb := fun sa sb hi => hf w hhead sa sb (by rw [hd, hi])
    refine ⟨hE.run_field hnf, fun hc => hE.run_codec hnf fun sa hi => hc w hhead sa (by rw [hd, hi])⟩
  | access _ _ _ => simp
  | reset hp => exact absurd (by rw [hp]; rfl) hr
  | waits _ | illegal _ _ => exact ⟨⟨rfl, rfl, rfl, rfl, rfl⟩, fun _ => ⟨rfl, rfl, rfl, rfl⟩⟩

end Sys2Proof.Machine
end


section
/-! SUPPORT. The construction of a field (R100-R103): the powers of α, the order of α, and the two tables. -/

namespace Sys2Proof.Machine

/-! ### The powers of α -/

/-- The successive products by α are the iterates of the product. -/
theorem alphaRun_eq (m prim count x : Nat) :
    alphaRun m prim count x = (List.range count).map fun i => (mulAlpha m prim)^[i + 1] x := by
  induction count generalizing x with
  | zero => rfl
  | succ count ih => simp [alphaRun, ih, List.range_succ_eq_map, Function.comp_def]

/-- The check of R102 is that α has order n. -/
theorem isPrimitive_iff {m prim : Nat} (hm : 1 ≤ m) : isPrimitive m prim = true ↔ orderIsN m prim := by
  have hpow : 2 ^ 1 ≤ 2 ^ m := Nat.pow_le_pow_right (by omega) hm
  obtain ⟨k, hk⟩ : ∃ k, 2 ^ m - 1 = k + 1 := ⟨2 ^ m - 2, by omega⟩
  have hk2 : 2 ^ m - 2 = k := by omega
  simp only [isPrimitive, orderIsN, alphaRun_eq, hk, hk2, Bool.and_eq_true, List.all_map, List.all_eq_true,
    List.mem_range, Function.comp_apply, decide_eq_true_eq, beq_iff_eq, List.range_succ, List.map_append,
    List.map_cons, List.map_nil, List.getLast?_concat, Option.some.injEq]
  refine and_congr_left fun _ => ⟨fun h i hi hi1 => ?_, fun h i hi => h (i + 1) (by omega) (by omega)⟩
  have := h (i - 1) (by omega)
  rwa [Nat.sub_add_cancel hi1] at this

section
variable {m prim : Nat}

@[simp] theorem mulAlpha_zero : mulAlpha m prim 0 = 0 := by simp [mulAlpha]

/-- A product by α is an element again, whatever it is reduced by, if that has degree m (R100). -/
theorem mulAlpha_lt (hprim : prim >>> m = 1) {x : Nat} (hx : x < 2 ^ m) : mulAlpha m prim x < 2 ^ m := by
  simp only [mulAlpha, Nat.shiftLeft_eq]
  split
  · next hge =>
    rw [Nat.shiftRight_eq_div_pow] at hprim
    have hhigh : (x * 2 ^ 1 ^^^ prim) / 2 ^ m = 0 := by
      have hx2 : x * 2 ^ 1 / 2 ^ m = 1 := Nat.div_eq_of_lt_le (by omega) (by omega)
      rw [Nat.xor_div_two_pow, hx2, hprim]
      rfl
    exact (Nat.div_eq_zero_iff_lt (Nat.two_pow_pos m)).1 hhigh
  · omega

theorem iterate_mulAlpha_lt (hm : 1 ≤ m) (hprim : prim >>> m = 1) (i : Nat) : (mulAlpha m prim)^[i] 1 < 2 ^ m := by
  induction i with
  | zero => exact Nat.one_lt_two_pow (by omega)
  | succ i ih =>
    rw [Function.iterate_succ_apply']
    exact mulAlpha_lt hprim ih

/-- No power of α is 0, for 0 has no power but 0 and α^n is 1. -/
theorem iterate_mulAlpha_ne_zero (h : orderIsN m prim) {i : Nat} (hi : i ≤ 2 ^ m - 1) :
    (mulAlpha m prim)^[i] 1 ≠ 0 := by
  intro h0
  have hn := h.2
  rw [← Nat.sub_add_cancel hi, Function.iterate_add_apply, h0, Function.iterate_fixed mulAlpha_zero] at hn
  exact zero_ne_one hn

/-- The powers of α below the order differ: two equal ones would give α a lower order. -/
theorem iterate_mulAlpha_inj (h : orderIsN m prim) {i j : Nat} (hi : i < 2 ^ m - 1) (hj : j < 2 ^ m - 1)
    (e : (mulAlpha m prim)^[i] 1 = (mulAlpha m prim)^[j] 1) : i = j := by
  have not_lt : ∀ {a b : Nat}, a < b → b < 2 ^ m - 1 → (mulAlpha m prim)^[a] 1 ≠ (mulAlpha m prim)^[b] 1 := by
    intro a b hab hb e
    refine h.1 (2 ^ m - 1 - b + a) (by omega) (by omega) ?_
    rw [Function.iterate_add_apply, e, ← Function.iterate_add_apply, Nat.sub_add_cancel hb.le]
    exact h.2
  rcases lt_trichotomy i j with hij | hij | hij
  · exact absurd e (not_lt hij hj)
  · exact hij
  · exact absurd e.symm (not_lt hij hi)

/-- Every nonzero element is a power of α below the order, for there are as many of these. -/
theorem exists_iterate_mulAlpha (hm : 1 ≤ m) (hprim : prim >>> m = 1) (h : orderIsN m prim) {a : Nat} (ha : 1 ≤ a)
    (ham : a < 2 ^ m) : ∃ i < 2 ^ m - 1, (mulAlpha m prim)^[i] 1 = a := by
  have hsurj := Finset.surj_on_of_inj_on_of_card_le (s := Finset.range (2 ^ m - 1)) (t := Finset.Ico 1 (2 ^ m))
    (fun i _ => (mulAlpha m prim)^[i] 1)
    (fun i hi => Finset.mem_Ico.2 ⟨Nat.one_le_iff_ne_zero.2 (iterate_mulAlpha_ne_zero h (Finset.mem_range.1 hi).le),
      iterate_mulAlpha_lt hm hprim i⟩)
    (fun i j hi hj e => iterate_mulAlpha_inj h (Finset.mem_range.1 hi) (Finset.mem_range.1 hj) e)
    (by simp) a (Finset.mem_Ico.2 ⟨ha, ham⟩)
  obtain ⟨i, hi, e⟩ := hsurj
  exact ⟨i, Finset.mem_range.1 hi, e.symm⟩

/-! ### The tables -/

/-- The entries of `EXP` that the loop of R100 writes, and those it leaves. -/
theorem buildLoop_read_exp (count i x : Nat) (tables : Memory 8 × Memory 9) (j : Nat) :
    Memory.read (buildLoop m prim count i x tables).1 j =
      if i ≤ j ∧ j < i + count then some (BitVec.ofNat 8 ((mulAlpha m prim)^[j - i + 1] x))
      else Memory.read tables.1 j := by
  induction count generalizing i x tables with
  | zero =>
    rw [if_neg (by omega)]
    rfl
  | succ count ih =>
    simp only [buildLoop]
    rw [ih]
    by_cases hij : i = j
    · subst hij
      rw [if_neg (by omega), if_pos (by omega), read_write_self, Nat.sub_self]
      rfl
    · rw [read_write_ne _ _ (Ne.symm hij)]
      by_cases hj : i + 1 ≤ j ∧ j < i + 1 + count
      · rw [if_pos hj, if_pos (by omega), ← Function.iterate_succ_apply,
          show j - i + 1 = (j - (i + 1) + 1).succ by omega]
      · rw [if_neg hj, if_neg (by omega)]

/-- The loop of R100 leaves the entry of `LOG` at an element that it does not come to. -/
theorem buildLoop_read_log_of_ne {count i x : Nat} {tables : Memory 8 × Memory 9} {a : Nat}
    (h : ∀ k < count, (mulAlpha m prim)^[k + 1] x ≠ a) :
    Memory.read (buildLoop m prim count i x tables).2 a = Memory.read tables.2 a := by
  induction count generalizing i x tables with
  | zero => rfl
  | succ count ih =>
    simp only [buildLoop]
    rw [ih fun k hk => h (k + 1) (by omega)]
    exact read_write_ne _ _ (h 0 (by omega)).symm

/-- The entry of `LOG` that the loop of R100 writes in a pass whose element no later pass comes to again. -/
theorem buildLoop_read_log {count i x : Nat} {tables : Memory 8 × Memory 9} {k : Nat} (hk : k < count)
    (h : ∀ l, k < l → l < count → (mulAlpha m prim)^[l + 1] x ≠ (mulAlpha m prim)^[k + 1] x) :
    Memory.read (buildLoop m prim count i x tables).2 ((mulAlpha m prim)^[k + 1] x) =
      some (BitVec.ofNat 9 (i + k)) := by
  induction count generalizing i x tables k with
  | zero => omega
  | succ count ih =>
    simp only [buildLoop]
    cases k with
    | zero =>
      rw [buildLoop_read_log_of_ne fun l hl => h (l + 1) (by omega) (by omega)]
      exact read_write_self ..
    | succ k =>
      rw [show i + (k + 1) = i + 1 + k by omega]
      exact ih (by omega) fun l hl hl' => h (l + 1) (by omega) (by omega)

/-- Entry i of `EXP` is α^i for i below n, and no other entry is written (R33, R100). -/
theorem gfBuild_read_exp (hm : 1 ≤ m) (j : Nat) : Memory.read (gfBuild m prim).1 j =
    if j < 2 ^ m - 1 then some (BitVec.ofNat 8 ((mulAlpha m prim)^[j] 1)) else none := by
  have hpow : 2 ^ 1 ≤ 2 ^ m := Nat.pow_le_pow_right (by omega) hm
  rw [gfBuild, buildLoop_read_exp]
  rcases Nat.eq_zero_or_pos j with rfl | hj
  · rw [if_neg (by omega), if_pos (by omega)]
    rfl
  · by_cases hn : j < 2 ^ m - 1
    · rw [if_pos (by omega), if_pos hn, Nat.sub_add_cancel hj]
    · rw [if_neg (by omega), if_neg hn, read_write_ne _ _ (by omega)]
      rfl

/-- `LOG[0]` is -1, the sentinel (R34). -/
theorem gfBuild_read_log_zero (h : orderIsN m prim) :
    Memory.read (gfBuild m prim).2 0 = some (BitVec.ofInt 9 (-1)) := by
  rw [gfBuild, buildLoop_read_log_of_ne fun k hk => iterate_mulAlpha_ne_zero h (by omega)]
  rfl

/-- `LOG` undoes the powers of α (R34). -/
theorem gfBuild_read_log (h : orderIsN m prim) {i : Nat} (hi : i < 2 ^ m - 1) :
    Memory.read (gfBuild m prim).2 ((mulAlpha m prim)^[i] 1) = some (BitVec.ofNat 9 i) := by
  cases i with
  | zero =>
    rw [gfBuild, buildLoop_read_log_of_ne fun k hk e => absurd (iterate_mulAlpha_inj h (by omega) hi e) (by omega)]
    rfl
  | succ k =>
    rw [gfBuild, buildLoop_read_log (by omega) fun l hl hl' e =>
      absurd (iterate_mulAlpha_inj h (by omega) hi e) (by omega), Nat.add_comm]

end

/-! ### A field that has been built -/

/-- What `GFINIT` has checked is `accepted` (R102). -/
theorem accepted_of_checked {m prim : Nat} (hm : Config.mMin ≤ m ∧ m ≤ Config.mMax) (hshift : prim >>> m = 1)
    (hprim : isPrimitive m prim = true) : accepted m prim :=
  ⟨hm, hshift, (isPrimitive_iff (le_trans one_le_two hm.1)).1 hprim⟩

/-- The degree of an accepted field. -/
theorem accepted.degree {m prim : Nat} (h : accepted m prim) : 2 ≤ m ∧ m ≤ 8 := h.1

/-- The numbers of an accepted field fit the registers that hold them (R29). -/
theorem accepted.fits {m prim : Nat} (h : accepted m prim) : 2 ^ m ≤ 256 ∧ prim < 512 := by
  obtain ⟨-, hm8⟩ := h.degree
  have hpow : 2 ^ m ≤ 2 ^ 8 := Nat.pow_le_pow_right (by omega) hm8
  have hshift := h.2.1
  rw [Nat.shiftRight_eq_div_pow] at hshift
  have hprim : prim < 2 * 2 ^ m := by
    have := Nat.lt_div_mul_add (a := prim) (Nat.two_pow_pos m)
    rw [hshift] at this
    omega
  omega

/-- The parameter registers of an accepted field read back as its numbers (R29, R36). -/
theorem accepted.installField {m prim : Nat} (h : accepted m prim) (s : State) (exp : Memory 8) (log : Memory 9) :
    (s.installField m prim exp log).m.toNat = m ∧ (s.installField m prim exp log).prim.toNat = prim ∧
      (s.installField m prim exp log).n.toNat = 2 ^ m - 1 := by
  obtain ⟨hm2, hm8⟩ := h.degree
  obtain ⟨hpow, hprim⟩ := h.fits
  simp only [installField_m, installField_prim, installField_n, BitVec.toNat_ofNat]
  omega

/-- A `GFINIT` that raises nothing has built an accepted field (R102, R103). -/
theorem gfinit_builds {sa sb : SReg} {s t : State} (h : exec (.gfinit sa sb) s = .next t) (herr : t.err = 0) :
    ∃ m prim, accepted m prim ∧ t = (Effect.field m prim).run s := by
  rcases execGfinit_effect s sa sb with ⟨e, hE⟩ | ⟨e, hE⟩ | ⟨m, prim, hE⟩
  · rw [hE.exec_eq] at h
    cases h
    exact absurd herr (raise_err_ne_zero e s)
  · rw [hE.exec_eq] at h
    cases h
    exact absurd herr (raise_err_ne_zero e _)
  · obtain ⟨-, hm, hshift, hprim⟩ := hE.1
    rw [hE.exec_eq] at h
    cases h
    exact ⟨m, prim, accepted_of_checked hm hshift hprim, rfl⟩

/-- In the tables of an accepted field entry i of `EXP` is α^i, and `LOG` of it is i (R33, R34). -/
theorem gfBuild_inverse {m prim : Nat} (h : accepted m prim) {i : Nat} (hi : i < 2 ^ m - 1) :
    ∃ (e : Byte) (l : BitVec 9), Memory.read (gfBuild m prim).1 i = some e ∧ e.toNat = (mulAlpha m prim)^[i] 1 ∧ e ≠ 0 ∧
      Memory.read (gfBuild m prim).2 e.toNat = some l ∧ l.toInt = i := by
  obtain ⟨hm2, -⟩ := h.degree
  obtain ⟨hpow, -⟩ := h.fits
  obtain ⟨-, hshift, hord⟩ := h
  have hlt := iterate_mulAlpha_lt (m := m) (by omega) hshift i
  have he : (BitVec.ofNat 8 ((mulAlpha m prim)^[i] 1)).toNat = (mulAlpha m prim)^[i] 1 := by
    rw [BitVec.toNat_ofNat]
    omega
  refine ⟨BitVec.ofNat 8 ((mulAlpha m prim)^[i] 1), BitVec.ofNat 9 i, ?_, he, ?_, ?_, ?_⟩
  · rw [gfBuild_read_exp (by omega), if_pos hi]
  · intro h0
    rw [h0] at he
    exact iterate_mulAlpha_ne_zero hord hi.le he.symm
  · rw [he, gfBuild_read_log hord hi]
  · rw [BitVec.toInt_eq_toNat_of_lt (by rw [BitVec.toNat_ofNat]; omega), BitVec.toNat_ofNat]
    omega

/-- Settles O26: the nonzero elements are the powers of α below n, each once. -/
theorem tablesAreInverse : Obligations.TablesAreInverse := by
  unfold Obligations.TablesAreInverse
  intro sa sb s t h herr
  obtain ⟨m, prim, hacc, rfl⟩ := gfinit_builds h herr
  obtain ⟨hm2, -⟩ := hacc.degree
  have hpos : 2 ^ 1 < 2 ^ m := Nat.pow_lt_pow_right (by omega) (by omega)
  have ⟨_, hshift, hord⟩ := hacc
  obtain ⟨hm, hprim, hn⟩ := hacc.installField s.dropField (gfBuild m prim).1 (gfBuild m prim).2
  simp only [Effect.run, complete_exp, complete_log, complete_n, complete_m, complete_prim, installField_exp,
    installField_log, hm, hprim, hn]
  refine ⟨gfBuild_read_log_zero hord, gfBuild_read_log hord (i := 0) (by omega), ?_,
    fun i hi => gfBuild_inverse hacc hi, fun a ha ha1 => ?_⟩
  · rw [gfBuild_read_exp (by omega), if_neg (by omega)]
  · obtain ⟨i, hi, rfl⟩ := exists_iterate_mulAlpha (by omega) hshift hord ha1 ha
    obtain ⟨e, l, he, hpow, -, hl, hli⟩ := gfBuild_inverse hacc hi
    refine ⟨l, e, by rw [← hpow, hl], by omega, by omega, ?_, hpow⟩
    rw [hli, Int.toNat_natCast, he]

end Sys2Proof.Machine
end


section
/-! SUPPORT. The invariant of Safety.lean: every effect of a command keeps it, and so does every step. -/

namespace Sys2Proof.Machine

/-- A vector that fits a write fits the 512 entries of this hardware's vector register (R22). -/
theorem Write.Fits.vector_length_le {s : State} (h : Inv s) {r : VReg} {xs : List Byte}
    (hw : (Write.vector r xs).Fits s) :
    xs.length ≤ 512 := by
  obtain ⟨-, -, hvl, -⟩ := h.constants
  rcases hw with hw | ⟨q, hq⟩
  · rwa [hvl] at hw
  · rw [hq]
    exact h.vectors_fit q

/-- `DREASON` may hold any of the values of R32. -/
theorem inv_setReason {s : State} (h : Inv s) {d : BitVec 8} (hd : d.toNat ≤ 5) : Inv (s.setReason d) :=
  ⟨h.state_legal, h.err_legal, h.sticky_legal, hd, h.constants, h.vectors_fit, h.memories, h.no_field, h.no_codec,
    h.field_built, h.codec_built⟩

/-- Writes that fit the state in which a command began keep the invariant. -/
theorem inv_applyWrites {s u : State} (hs : Inv s) (hu : Inv u) {ws : List Write} (hw : ∀ w ∈ ws, w.Fits s) :
    Inv (applyWrites u ws) := by
  induction ws generalizing u with
  | nil => exact hu
  | cons w ws ih =>
    obtain ⟨hfit, hrest⟩ := List.forall_mem_cons.1 hw
    refine ih (u := w.apply u) ?_ hrest
    cases w with
    | scalar r x => exact inv_setScalar hu r x
    | vector r xs => exact inv_setVector hu r (hfit.vector_length_le hs)
    | reason d => exact inv_setReason hu hfit

theorem inv_clearSticky {s : State} (h : Inv s) : Inv (clearSticky s) :=
  ⟨h.state_legal, h.err_legal, BitVec.zero_and, h.dreason_legal, h.constants, h.vectors_fit, h.memories, h.no_field,
    h.no_codec, h.field_built, h.codec_built⟩

/-- An engine whose field has ended holds nothing (R31; log entries 7 and 8). -/
theorem inv_dropField {s : State} (h : Inv s) : Inv s.dropField where
  state_legal := by simp
  err_legal := h.err_legal
  sticky_legal := h.sticky_legal
  dreason_legal := by simp
  constants := h.constants
  vectors_fit := h.vectors_fit
  memories := ⟨wf_nil, wf_nil, wf_nil⟩
  no_field _ := ⟨rfl, rfl, rfl, rfl, rfl⟩
  no_codec _ := ⟨rfl, rfl, rfl⟩
  field_built h := by simp at h
  codec_built h := by simp at h

/-- An engine whose codec has ended keeps its field (R31). -/
theorem inv_dropCodec {s : State} (h : Inv s) (hready : 1 ≤ s.state.toNat) : Inv s.dropCodec where
  state_legal := by simp
  err_legal := h.err_legal
  sticky_legal := h.sticky_legal
  dreason_legal := by simp
  constants := h.constants
  vectors_fit := h.vectors_fit
  memories := ⟨h.memories.1, h.memories.2.1, wf_nil⟩
  no_field h := by simp at h
  no_codec _ := ⟨rfl, rfl, rfl⟩
  field_built _ := h.field_built hready
  codec_built h := by simp at h

/-- A field that is built from accepted parameters is the one of the invariant (R33, R34, R36). -/
theorem inv_installField {s : State} (h : Inv s) {m prim : Nat} (hacc : accepted m prim) :
    Inv (s.dropField.installField m prim (gfBuild m prim).1 (gfBuild m prim).2) := by
  have h' := inv_dropField h
  obtain ⟨hm, hprim, hn⟩ := hacc.installField s.dropField (gfBuild m prim).1 (gfBuild m prim).2
  exact {
    state_legal := by simp
    err_legal := h'.err_legal
    sticky_legal := h'.sticky_legal
    dreason_legal := h'.dreason_legal
    constants := h'.constants
    vectors_fit := h'.vectors_fit
    memories := ⟨(wf_gfBuild m prim).1, (wf_gfBuild m prim).2, wf_nil⟩
    no_field := fun h => by simp at h
    no_codec := fun _ => ⟨rfl, rfl, rfl⟩
    field_built := fun _ => by
      rw [hm, hprim, hn]
      exact ⟨hacc, rfl, rfl⟩
    codec_built := fun h => by simp at h }

/-- A codec that is built from a legal t is the one of the invariant (R35, R36). -/
theorem inv_installCodec {s : State} (h : Inv s) (hready : 1 ≤ s.state.toNat) {t : Nat} {g : List Nat}
    (ht : 1 ≤ t ∧ 2 * t < s.n.toNat) (hg : genPoly s.field s.vlmax.toNat t = .ok g) :
    Inv (s.dropCodec.installCodec t (s.n.toNat - polyDeg g) g) := by
  have h' := inv_dropCodec h hready
  obtain ⟨-, -, hvl, -⟩ := h.constants
  have htnat : (BitVec.ofNat 7 t).toNat = t := by
    have := s.n.isLt
    rw [BitVec.toNat_ofNat]
    omega
  exact {
    state_legal := by simp
    err_legal := h'.err_legal
    sticky_legal := h'.sticky_legal
    dreason_legal := h'.dreason_legal
    constants := h'.constants
    vectors_fit := h'.vectors_fit
    memories := ⟨h.memories.1, h.memories.2.1, wf_ofSeq g⟩
    no_field := fun h => by simp at h
    no_codec := fun h => by simp at h
    field_built := fun _ => h.field_built hready
    codec_built := fun _ => by
      rw [installCodec_t, htnat]
      rw [hvl] at hg
      exact ⟨ht.1, ht.2, g, hg, rfl, rfl⟩ }

/-- An effect that a command can have keeps the invariant. -/
theorem Effect.Allowed.inv_run {E : Effect} {i : Instr} {s : State} (h : E.Allowed i s) (hs : Inv s) :
    Inv (E.run s) := by
  cases E with
  | error e => exact inv_raise hs e
  | writes ws => exact inv_complete (inv_applyWrites hs hs h.fits)
  | clear => exact inv_complete (inv_clearSticky hs)
  | noField e => exact inv_raise (inv_dropField hs) e
  | field m prim =>
    obtain ⟨-, hm, hshift, hprim⟩ := h
    exact inv_complete (inv_installField hs (accepted_of_checked hm hshift hprim))
  | noCodec e =>
    obtain ⟨-, hready⟩ := h
    exact inv_raise (inv_dropCodec hs hready) e
  | codec t g =>
    obtain ⟨-, hready, ht, hg⟩ := h
    exact inv_complete (inv_installCodec hs hready ht hg)

/-- Settles O15, clause by clause: after reset every register and table is empty and `STATE` is 0. -/
theorem resetHasTheInvariant : Obligations.ResetHasTheInvariant where
  state_legal := Nat.zero_le _
  err_legal := Nat.zero_le _
  sticky_legal := BitVec.zero_and
  dreason_legal := Nat.zero_le _
  constants := ⟨rfl, rfl, rfl, rfl⟩
  vectors_fit r := by simp [State.reset]
  memories := wf_reset
  no_field _ := ⟨rfl, rfl, rfl, rfl, rfl⟩
  no_codec _ := ⟨rfl, rfl, rfl⟩
  field_built h := by simp [State.reset] at h
  codec_built h := by simp [State.reset] at h

/-- A reset leads to a state with the invariant, in a build whose constants are this hardware's. -/
theorem inv_hostReset {s : State} (h : Inv s) : Inv (hostReset s) :=
  have hr : Inv State.reset := resetHasTheInvariant
  ⟨hr.state_legal, hr.err_legal, hr.sticky_legal, hr.dreason_legal, h.constants, hr.vectors_fit, hr.memories,
    hr.no_field, hr.no_codec, hr.field_built, hr.codec_built⟩

/-- Settles O14: each thing a step can do keeps the invariant. -/
theorem stepKeepsTheInvariant : Obligations.StepKeepsTheInvariant := by
  unfold Obligations.StepKeepsTheInvariant
  intro s t hs h
  cases stepTo_of_step h with
  | waits _ => exact hs
  | @illegal _ rest _ _ _ => exact inv_port (inv_raise (inv_port hs rest s.reply s.freeIdx) _) _ _ _
  | @command _ rest _ E _ _ hE => exact inv_port (hE.inv_run (inv_port hs rest s.reply s.freeIdx)) _ _ _
  | access _ _ hw => exact inv_port (inv_applyWrites hs hs hw) _ _ _
  | @reset rest _ => exact inv_hostReset (inv_port hs rest s.reply s.freeIdx)

end Sys2Proof.Machine
end


section
/-! SUPPORT. The checks a command begins with: on its word, on `STATE`, and on its sources (R303). -/

namespace Sys2Proof.Machine

/-! ### Terms that no word spells -/

theorem requireLegal_of_not_wellFormed {s : State} {i : Instr} (h : WellFormed s.feat i = false) :
    requireLegal s i = .error .illegalCommand :=
  ensure_eq_error.2 ⟨by simp [h], rfl⟩

/-- A rule that begins with the check of its term raises `IllegalCommand` where no word spells the term (log entry
14). -/
theorem finish_requireLegal {s : State} {i : Instr} {f : Unit → Except Err State} (h : WellFormed s.feat i = false) :
    finish s (requireLegal s i >>= f) = .next (raise .illegalCommand s) :=
  finish_eq_raise (bind_eq_error.2 (.inl (requireLegal_of_not_wellFormed h)))

/-- The commands of the optional units and those with two destinations of one file check their term first; every
other command is well-formed. -/
theorem exec_of_not_wellFormed {i : Instr} {s : State} (h : WellFormed s.feat i = false) :
    exec i s = .next (raise .illegalCommand s) := by
  cases i with
  | pdiv | cosets | dec | decbm | decmg | rsinterp | rsverify | rsdec | rsdecmv => exact finish_requireLegal h
  | _ => simp [WellFormed, Instr.unitPresent, Instr.featBit, Instr.distinctDests, Instr.scalarDests,
      Instr.vectorDests] at h

/-- A format R word whose fields spell a command of an absent unit is no command (R37, R74). -/
theorem decode_of_fields_absent {feat : BitVec 3} {w : Word} {k b : Nat} {i : Instr}
    (hw : decodeFields w = formatR w k i)
    (hi : i.featBit = some b) (hb : feat.getLsbD b = false) : ∃ e, decode feat w = .error e := by
  have habsent : i.unitPresent feat = false := by simp only [Instr.unitPresent, hi, hb]
  rw [decode, hw, formatR]
  split
  · exact ⟨_, rfl⟩
  · next hj =>
    split at hj
    · cases hj
      exact ⟨.absentUnit, if_pos habsent⟩
    · cases hj

/-- The word of a command of an absent unit is no command (R37, R74). -/
theorem decode_of_absent {feat : BitVec 3} {i : Instr} (h : i.unitPresent feat = false) :
    ∃ e, decode feat (encode i) = .error e := by
  cases i with
  | decbm vm vc sd va =>
    have hop : opcodeField (encode (.decbm vm vc sd va)) = 0x45 := Laws.OpcodeByte.decbm vm vc sd va
    exact decode_of_fields_absent (by simp only [decodeFields, hop]; rfl) rfl h
  | decmg vm vc sd va =>
    have hop : opcodeField (encode (.decmg vm vc sd va)) = 0x46 := Laws.OpcodeByte.decmg vm vc sd va
    exact decode_of_fields_absent (by simp only [decodeFields, hop]; rfl) rfl h
  | rsinterp vd vx vy =>
    have hop : opcodeField (encode (.rsinterp vd vx vy)) = 0x50 := Laws.OpcodeByte.rsinterp vd vx vy
    exact decode_of_fields_absent (by simp only [decodeFields, hop]; rfl) rfl h
  | rsverify sd vx vy vc =>
    have hop : opcodeField (encode (.rsverify sd vx vy vc)) = 0x51 := Laws.OpcodeByte.rsverify sd vx vy vc
    exact decode_of_fields_absent (by simp only [decodeFields, hop]; rfl) rfl h
  | rsdec vc sl se vx vy sg =>
    have hop : opcodeField (encode (.rsdec vc sl se vx vy sg)) = 0x52 := Laws.OpcodeByte.rsdec vc sl se vx vy sg
    exact decode_of_fields_absent (by simp only [decodeFields, hop]; rfl) rfl h
  | rsdecmv vc vl se vx vy sg =>
    have hop : opcodeField (encode (.rsdecmv vc vl se vx vy sg)) = 0x53 := Laws.OpcodeByte.rsdecmv vc vl se vx vy sg
    exact decode_of_fields_absent (by simp only [decodeFields, hop]; rfl) rfl h
  | _ => cases h

/-- Settles O10: the executed term is refused by its own check, the issued word by the decoder, and neither an effect
nor a step writes a constant. -/
theorem absentUnitIsIllegal : Obligations.AbsentUnitIsIllegal := by
  unfold Obligations.AbsentUnitIsIllegal
  refine ⟨fun i s h => exec_of_not_wellFormed h, fun i s rest h hp => ?_, fun i s t h => ?_, fun s t h => ?_⟩
  · obtain ⟨e, he⟩ := decode_of_absent h
    exact step_illegal hp he
  · obtain ⟨E, -, rfl⟩ := exec_eq_next h
    exact E.run_constants s
  · exact (stepTo_of_step h).constants

/-! ### Unwritten sources -/

/-- With one of the given registers unwritten, a rule raises `OperandUnwritten` (R303). -/
def ReadsFirst {α : Type} (s : State) (S : List SReg) (V : List VReg) (rule : Except Err α) : Prop :=
  (∃ r ∈ S, unwrittenS s r) ∨ (∃ r ∈ V, unwrittenV s r) → rule = .error .operandUnwritten

namespace ReadsFirst
variable {α : Type} {s : State} {S : List SReg} {V : List VReg}

theorem nil {rule : Except Err α} : ReadsFirst s [] [] rule := by
  rintro (⟨_, h, -⟩ | ⟨_, h, -⟩) <;> cases h

theorem scalar {r : SReg} {f : Word → Except Err α} (h : ∀ x, ReadsFirst s S V (f x)) :
    ReadsFirst s (r :: S) V (readS s r >>= f) := by
  intro hsrc
  cases hr : readS s r with
  | error e =>
    obtain ⟨rfl, -⟩ := readS_eq_error.1 hr
    rfl
  | ok x =>
    have hv : s.scalars[r] = ⟨true, x⟩ := readS_eq_ok.1 hr
    have hwritten : ¬ unwrittenS s r := by simp [unwrittenS, hv]
    refine h x (hsrc.imp_left ?_)
    rintro ⟨q, hq, hu⟩
    obtain rfl | hq := List.mem_cons.1 hq
    · exact absurd hu hwritten
    · exact ⟨q, hq, hu⟩

theorem vector {r : VReg} {f : List Byte → Except Err α} (h : ∀ x, ReadsFirst s S V (f x)) :
    ReadsFirst s S (r :: V) (readV s r >>= f) := by
  intro hsrc
  cases hr : readV s r with
  | error e =>
    obtain ⟨rfl, -⟩ := readV_eq_error.1 hr
    rfl
  | ok x =>
    have hv : s.vectors[r] = ⟨true, x⟩ := readV_eq_ok.1 hr
    have hwritten : ¬ unwrittenV s r := by simp [unwrittenV, hv]
    refine h x (hsrc.imp_right ?_)
    rintro ⟨q, hq, hu⟩
    obtain rfl | hq := List.mem_cons.1 hq
    · exact absurd hu hwritten
    · exact ⟨q, hq, hu⟩

theorem lastScalar {r : SReg} : ReadsFirst s [r] [] (readS s r) := by
  simpa only [bind_pure] using scalar (f := pure) (fun _ => nil)

/-- A check that holds before the sources are read. -/
theorem after {p : Prop} [Decidable p] {e : Err} {f : Unit → Except Err α} (hp : p) (h : ReadsFirst s S V (f ())) :
    ReadsFirst s S V (ensure p e >>= f) := by
  rw [ensure_eq_ok.2 hp]
  exact h

end ReadsFirst

/-- A rule that reads an unwritten register first ends in `OperandUnwritten`. -/
theorem finish_of_readsFirst {s : State} {S : List SReg} {V : List VReg} {rule : Except Err State}
    (hrule : ReadsFirst s S V rule) (h : (∃ r ∈ S, unwrittenS s r) ∨ (∃ r ∈ V, unwrittenV s r)) :
    finish s rule = .next (raise .operandUnwritten s) := finish_eq_raise (hrule h)

/-- Every command reads its sources before any check of their contents (R303). -/
theorem exec_of_unwritten_source {i : Instr} {s : State} (hw : WellFormed s.feat i = true)
    (hs : i.leastState ≤ s.state.toNat)
    (h : (∃ r ∈ i.scalarSources, unwrittenS s r) ∨ (∃ r ∈ i.vectorSources, unwrittenV s r)) :
    exec i s = .next (raise .operandUnwritten s) := by
  cases i with
  | nop | sli | rdcr | clrerr => exact absurd h (by simp [Instr.scalarSources, Instr.vectorSources])
  | ldgen => exact finish_of_readsFirst (.after hs .nil) h
  | smov | vzero => exact finish_of_readsFirst (.scalar fun _ => .nil) h
  | vlen | vmov | pdeg => exact finish_of_readsFirst (.vector fun _ => .nil) h
  | vset => exact finish_of_readsFirst (.scalar fun _ => .scalar fun _ => .vector fun _ => .nil) h
  | vget => exact finish_of_readsFirst (.scalar fun _ => .vector fun _ => .nil) h
  | gfinit sa sb =>
    have hread : ReadsFirst s [sa, sb] [] (gfinitOperands sa sb s) := .scalar fun _ => .scalar fun _ => .nil
    exact exec_gfinit_of_error (hread h)
  | bchinit sa =>
    have hread : ReadsFirst s [sa] [] (bchinitOperand sa s) := .after hs .lastScalar
    exact exec_bchinit_of_error (hread h)
  | gfadd | gfmul | gfpow =>
    exact finish_of_readsFirst (.after hs (.scalar fun _ => .scalar fun _ => .nil)) h
  | gfinv | ldexp | ldlog | genpoly => exact finish_of_readsFirst (.after hs (.scalar fun _ => .nil)) h
  | pmul | pgcd | plcm => exact finish_of_readsFirst (.after hs (.vector fun _ => .vector fun _ => .nil)) h
  | minpoly | enc | synd | peterson | chien => exact finish_of_readsFirst (.after hs (.vector fun _ => .nil)) h
  | pdiv => exact finish_of_readsFirst (.after hw (.after hs (.vector fun _ => .vector fun _ => .nil))) h
  | cosets => exact finish_of_readsFirst (.after hw (.after hs (.scalar fun _ => .nil))) h
  | dec | decbm | decmg => exact finish_of_readsFirst (.after hw (.after hs (.vector fun _ => .nil))) h
  | rsinterp => exact finish_of_readsFirst (.after hw (.vector fun _ => .vector fun _ => .nil)) h
  | rsverify => exact finish_of_readsFirst (.after hw (.vector fun _ => .vector fun _ => .vector fun _ => .nil)) h
  | rsdec | rsdecmv =>
    exact finish_of_readsFirst (.after hw (.vector fun _ => .vector fun _ => .scalar fun _ => .nil)) h

/-- Settles O9: sources by `exec_of_unwritten_source`, destinations by the effect of the command, the host's writes and
the rest by what a step can do. -/
theorem unwrittenRegisters : Obligations.UnwrittenRegisters := by
  unfold Obligations.UnwrittenRegisters
  refine ⟨⟨fun r => by simp [unwrittenS, State.reset], fun r => by simp [unwrittenV, State.reset]⟩,
    fun i s hw hs h => ?_, fun i s t h herr => ?_,
    fun s t h => ⟨fun r x hp => ?_, fun r xs hl hp => ?_, (stepTo_of_step h).registers_valid⟩⟩
  · exact exec_of_unwritten_source hw hs h
  · obtain ⟨E, hE, rfl⟩ := exec_eq_next h
    exact hE.dests_valid herr
  · obtain ⟨rest, hp⟩ := List.head?_eq_some_iff.1 hp
    rw [step_writeS hp] at h
    cases h
    exact setScalar_valid (s := { s with port := rest }) (.inl rfl)
  · obtain ⟨rest, hp⟩ := List.head?_eq_some_iff.1 hp
    have hfit : (xs.map fun x => (x.toNat : Int)).length ≤ s.vlmax.toNat ∧
        ∀ x ∈ xs.map fun x => (x.toNat : Int), 0 ≤ x ∧ x ≤ 255 := by
      refine ⟨by simpa using hl, List.forall_mem_map.2 fun x _ => ?_⟩
      have := x.isLt
      omega
    rw [step_writeV hp, hostWriteV_of_fits (s := { s with port := rest }) hfit] at h
    cases h
    exact setVector_valid (s := { s with port := rest }) (.inl rfl)

end Sys2Proof.Machine
end

end


section
/-! SUPPORT. The words of commands: a word as its opcode byte and its fields, and the decoder as the inverse of the
encoder (R70 to R76). -/

namespace Sys2Proof.Machine

/-! ### Fields of a packed word, and a word packed from its fields -/

theorem regField_packR (op : Nat) (f1 f2 f3 f4 f5 f6 : Fin 16) :
    regField (packR op f1 f2 f3 f4 f5 f6) 20 = f1 ∧ regField (packR op f1 f2 f3 f4 f5 f6) 16 = f2 ∧
    regField (packR op f1 f2 f3 f4 f5 f6) 12 = f3 ∧ regField (packR op f1 f2 f3 f4 f5 f6) 8 = f4 ∧
    regField (packR op f1 f2 f3 f4 f5 f6) 4 = f5 ∧ regField (packR op f1 f2 f3 f4 f5 f6) 0 = f6 := by
  simp only [regField, packR, BitVec.toNat_ofNat, Fin.ext_iff]
  omega

theorem regField_packI (op : Nat) (f1 : Fin 16) (imm : BitVec 16) : regField (packI op f1 imm) 20 = f1 := by
  have := imm.isLt
  simp only [regField, packI, BitVec.toNat_ofNat, Fin.ext_iff]
  omega

theorem packR_fields (w : Word) :
    packR (opcodeField w) (regField w 20) (regField w 16) (regField w 12) (regField w 8) (regField w 4)
      (regField w 0) = w := by
  have := w.isLt
  apply BitVec.eq_of_toNat_eq
  simp only [packR, opcodeField, regField, BitVec.toNat_ofNat]
  omega

theorem packI_fields {w : Word} (h : w.toNat / 2 ^ 16 % 16 = 0) :
    packI (opcodeField w) (regField w 20) (BitVec.ofNat 16 w.toNat) = w := by
  have := w.isLt
  apply BitVec.eq_of_toNat_eq
  simp only [packI, opcodeField, regField, BitVec.toNat_ofNat]
  omega

/-- A register field that lies in the low bits of a word, all of them 0, is 0000. -/
theorem regField_eq_zero {w : Word} {n lo : Nat} (h : w.toNat % 2 ^ n = 0) (hlo : lo + 4 ≤ n) :
    regField w lo = 0 := by
  have hdvd : 2 ^ lo * 16 ∣ w.toNat :=
    ((pow_add 2 lo 4).symm ▸ Nat.pow_dvd_pow 2 hlo).trans (Nat.dvd_of_mod_eq_zero h)
  obtain ⟨c, hc⟩ := hdvd
  apply Fin.ext
  simp [regField, hc, mul_assoc]

/-! ### The two formats -/

theorem formatR_eq_ok_iff {w : Word} {k : Nat} {i j : Instr} :
    formatR w k i = .ok j ↔ w.toNat % 2 ^ (24 - 4 * k) = 0 ∧ i = j := by
  unfold formatR
  split <;> simp [*]

theorem formatI_eq_ok_iff {w : Word} {i : BitVec 16 → Instr} {j : Instr} :
    formatI w i = .ok j ↔ w.toNat / 2 ^ 16 % 16 = 0 ∧ i (BitVec.ofNat 16 w.toNat) = j := by
  unfold formatI
  split <;> simp only [*, Except.ok.injEq, true_and, false_and, reduceCtorEq]

/-- A format R word with 0000 in every field after its `k` operands, for each `k` that a command has. -/
theorem formatR_packR (op : Nat) (i : Instr) :
    formatR (packR op 0 0 0 0 0 0) 0 i = .ok i ∧
    (∀ f1, formatR (packR op f1 0 0 0 0 0) 1 i = .ok i) ∧
    (∀ f1 f2, formatR (packR op f1 f2 0 0 0 0) 2 i = .ok i) ∧
    (∀ f1 f2 f3, formatR (packR op f1 f2 f3 0 0 0) 3 i = .ok i) ∧
    (∀ f1 f2 f3 f4, formatR (packR op f1 f2 f3 f4 0 0) 4 i = .ok i) ∧
    (∀ f1 f2 f3 f4 f5 f6, formatR (packR op f1 f2 f3 f4 f5 f6) 6 i = .ok i) := by
  simp only [formatR_eq_ok_iff, and_true, packR, BitVec.toNat_ofNat, Fin.val_zero]
  refine ⟨?_, ?_, ?_, ?_, ?_, ?_⟩ <;> intros <;> omega

theorem formatI_packI (op : Nat) (f1 : Fin 16) (imm : BitVec 16) (i : BitVec 16 → Instr) :
    formatI (packI op f1 imm) i = .ok (i imm) := by
  have := imm.isLt
  refine formatI_eq_ok_iff.2 ⟨?_, congrArg i (BitVec.eq_of_toNat_eq ?_)⟩ <;>
  · simp only [packI, BitVec.toNat_ofNat]
    omega

/-! ### The decoder inverts the encoder -/

theorem opcodeField_encode (i : Instr) : opcodeField (encode i) = i.opcode := by
  cases i with
  | sli | rdcr => exact Laws.opcodeField_packI _ (by decide) _ _
  | _ => exact Laws.opcodeField_packR _ (by decide) _ _ _ _ _ _

theorem decodeFields_encode (i : Instr) : decodeFields (encode i) = .ok i := by
  unfold decodeFields
  rw [opcodeField_encode i]
  cases i with
  | sli | rdcr => simp only [encode, Instr.opcode, regField_packI, formatI_packI]
  | _ => simp only [encode, Instr.opcode, regField_packR, formatR_packR]

/-- Along the rows of the decoder: the fields a row does not read are 0000, so the word is packed from those it reads. -/
theorem encode_of_decodeFields {w : Word} {i : Instr} (h : decodeFields w = .ok i) : encode i = w := by
  unfold decodeFields at h
  split at h
  case h_39 => cases h
  case h_2 hop | h_4 hop =>
    obtain ⟨hz, rfl⟩ := formatI_eq_ok_iff.1 h
    simpa only [hop, encode] using packI_fields hz
  all_goals
    next hop =>
      obtain ⟨hz, rfl⟩ := formatR_eq_ok_iff.1 h
      simpa (disch := decide) only [hop, encode, regField_eq_zero hz] using packR_fields w

theorem decodeFields_eq_ok_iff {w : Word} {i : Instr} : decodeFields w = .ok i ↔ encode i = w :=
  ⟨encode_of_decodeFields, fun h => h ▸ decodeFields_encode i⟩

theorem checkCommand_eq_ok_iff {feat : BitVec 3} {i j : Instr} :
    checkCommand feat i = .ok j ↔ i = j ∧ WellFormed feat i = true := by
  unfold checkCommand WellFormed
  split
  · next h => simp [h]
  · split <;> simp_all

/-- R74, R76: a word decodes to a command exactly when it is the command's word and the build has the command. -/
theorem decode_eq_ok_iff {feat : BitVec 3} {w : Word} {i : Instr} :
    decode feat w = .ok i ↔ encode i = w ∧ WellFormed feat i = true := by
  rw [← decodeFields_eq_ok_iff, decode]
  cases decodeFields w with
  | error e => simp
  | ok j =>
    simp only [checkCommand_eq_ok_iff, Except.ok.injEq]
    constructor <;> (rintro ⟨rfl, h⟩; exact ⟨rfl, h⟩)

/-- R54: the four little-endian bytes of a word stand for the word. -/
theorem bytesToWord_wordToBytes (w : Word) :
    bytesToWord (w.extractLsb' 0 8) (w.extractLsb' 8 8) (w.extractLsb' 16 8) (w.extractLsb' 24 8) = w := by
  unfold bytesToWord
  ext j
  grind

theorem decodeBytes_wordToBytes (feat : BitVec 3) (w : Word) :
    decodeBytes feat (wordToBytes w) = decode feat w :=
  congrArg (decode feat) (bytesToWord_wordToBytes w)

/-- Settles O1: both decodings are decoding of the command's word, by `decode_eq_ok_iff`. -/
theorem decodeInvertsEncode : Obligations.DecodeInvertsEncode := by
  unfold Obligations.DecodeInvertsEncode
  intro feat i hi
  have hdecode : decode feat (encode i) = .ok i := decode_eq_ok_iff.2 ⟨rfl, hi⟩
  exact ⟨hdecode, (decodeBytes_wordToBytes feat _).trans hdecode⟩

/-- Settles O2, the other direction of `decode_eq_ok_iff`. -/
theorem encodeInvertsDecode : Obligations.EncodeInvertsDecode := by
  unfold Obligations.EncodeInvertsDecode
  intro feat w i h
  exact decode_eq_ok_iff.1 h

/-- Settles O4: each word is the encoding of a well-formed command. -/
theorem specWordsDecode : Obligations.SpecWordsDecode := by
  unfold Obligations.SpecWordsDecode
  simp only [decode_eq_ok_iff]
  decide

end Sys2Proof.Machine
end

section
/-! SUPPORT. The match and mask table of R76 against the decoder: each mask is the opcode byte and the one field that the
row's format wants zero (R71, R72, R77). -/

namespace Sys2Proof.Machine

/-! ### Masks -/

/-- The mask of the `n` bits of a word from bit `lo` up. -/
def fieldMask (lo n : Nat) : Word := BitVec.ofNat 32 ((2 ^ n - 1) * 2 ^ lo)

theorem toNat_and_fieldMask (w : Word) {lo n : Nat} (h : lo + n ≤ 32) :
    (w &&& fieldMask lo n).toNat = w.toNat / 2 ^ lo % 2 ^ n * 2 ^ lo := by
  have hmask : (2 ^ n - 1) * 2 ^ lo < 2 ^ 32 := by
    calc (2 ^ n - 1) * 2 ^ lo < 2 ^ n * 2 ^ lo :=
          Nat.mul_lt_mul_of_pos_right (Nat.sub_lt (Nat.two_pow_pos n) Nat.one_pos) (Nat.two_pow_pos lo)
      _ = 2 ^ (lo + n) := by rw [pow_add, mul_comm]
      _ ≤ 2 ^ 32 := Nat.pow_le_pow_right (by decide) h
  rw [fieldMask, BitVec.toNat_and, BitVec.toNat_ofNat, Nat.mod_eq_of_lt hmask]
  simp only [← Nat.shiftLeft_eq, ← Nat.shiftRight_eq_div_pow]
  apply Nat.eq_of_testBit_eq
  intro j
  simp only [Nat.testBit_and, Nat.testBit_shiftLeft, Nat.testBit_mod_two_pow, Nat.testBit_shiftRight,
    Nat.testBit_two_pow_sub_one]
  by_cases hj : lo ≤ j
  · simp [hj, Bool.and_comm]
  · simp [hj]

/-- Comparing under two disjoint masks, with a pattern inside the first. -/
theorem and_or_eq_iff {a b c w : Word} (hab : a &&& b = 0#32) (hc : c &&& a = c) :
    w &&& (a ||| b) = c ↔ w &&& a = c ∧ w &&& b = 0#32 := by
  constructor
  · intro h
    have ha : w &&& (a ||| b) &&& a = w &&& a := by
      ext j
      simp only [BitVec.getElem_and, BitVec.getElem_or]
      grind
    have hb : w &&& (a ||| b) &&& b = w &&& b := by
      ext j
      simp only [BitVec.getElem_and, BitVec.getElem_or]
      grind
    rw [← ha, ← hb, h, hc, ← hc, BitVec.and_assoc, hab]
    exact ⟨rfl, BitVec.and_zero⟩
  · rintro ⟨ha, hb⟩
    rw [BitVec.and_or_distrib_left, ha, hb, BitVec.or_zero]

/-! ### The rows of the table by opcode and format -/

/-- The two formats of a command word (R71, R72). -/
inductive CommandFormat where
  /-- Format R with `k` register operands. -/
  | regs (k : Nat)
  /-- Format I. -/
  | imm

/-- The field that a format wants zero, by its lowest bit and its width (R77). -/
def CommandFormat.zeroField : CommandFormat → Nat × Nat
  | .regs k => (0, 24 - 4 * k)
  | .imm => (16, 4)

/-- The field that the format wants zero is zero. -/
def CommandFormat.Fits (f : CommandFormat) (w : Word) : Prop :=
  w.toNat / 2 ^ f.zeroField.1 % 2 ^ f.zeroField.2 = 0

/-- The column mask of the table of R76, from the format. -/
def CommandFormat.mask (f : CommandFormat) : Word := fieldMask 24 8 ||| fieldMask f.zeroField.1 f.zeroField.2

/-- The column match of the table of R76, from the opcode. -/
def matchWord (op : Nat) : Word := BitVec.ofNat 32 (op * 2 ^ 24)

/-- The rows of the table of R76 as an opcode and a format. -/
def formatTable : List (Nat × CommandFormat) :=
  [(0x01, .regs 0), (0x02, .imm), (0x03, .regs 2), (0x04, .imm), (0x05, .regs 0),
   (0x08, .regs 2), (0x09, .regs 3), (0x0A, .regs 3), (0x0B, .regs 2), (0x0C, .regs 2),
   (0x10, .regs 2), (0x11, .regs 3), (0x12, .regs 3), (0x13, .regs 3), (0x14, .regs 2), (0x15, .regs 2), (0x16, .regs 2),
   (0x20, .regs 2), (0x21, .regs 3), (0x22, .regs 4), (0x23, .regs 3), (0x24, .regs 3),
   (0x30, .regs 3), (0x31, .regs 2), (0x32, .regs 2), (0x33, .regs 1), (0x34, .regs 1),
   (0x40, .regs 2), (0x41, .regs 2), (0x42, .regs 3), (0x43, .regs 3), (0x44, .regs 4), (0x45, .regs 4), (0x46, .regs 4),
   (0x50, .regs 3), (0x51, .regs 4), (0x52, .regs 6), (0x53, .regs 6)]

theorem opcodeTable_eq : opcodeTable = formatTable.map fun p => (matchWord p.1, p.2.mask) := by decide

theorem and_opcodeMask_eq_iff {w : Word} {op : Nat} (h : op < 256) :
    w &&& fieldMask 24 8 = matchWord op ↔ opcodeField w = op := by
  have := w.isLt
  rw [← BitVec.toNat_inj, toNat_and_fieldMask w (by decide), matchWord, BitVec.toNat_ofNat, opcodeField]
  omega

theorem and_mask_eq_iff {w : Word} {p : Nat × CommandFormat} (hp : p ∈ formatTable) :
    w &&& p.2.mask = matchWord p.1 ↔ opcodeField w = p.1 ∧ p.2.Fits w := by
  have hrows : ∀ p ∈ formatTable, p.1 < 256 ∧ p.2.zeroField.1 + p.2.zeroField.2 ≤ 32 ∧
      fieldMask 24 8 &&& fieldMask p.2.zeroField.1 p.2.zeroField.2 = 0#32 ∧
      matchWord p.1 &&& fieldMask 24 8 = matchWord p.1 := by decide
  obtain ⟨hop, hzero, hdisjoint, hmatch⟩ := hrows p hp
  rw [CommandFormat.mask, and_or_eq_iff hdisjoint hmatch, and_opcodeMask_eq_iff hop, CommandFormat.Fits,
    ← BitVec.toNat_inj (x := w &&& _), toNat_and_fieldMask w hzero]
  simp

theorem exists_formatR_eq_ok {w : Word} {k : Nat} {i : Instr} :
    (∃ j, formatR w k i = .ok j) ↔ (CommandFormat.regs k).Fits w := by
  simp [formatR_eq_ok_iff, CommandFormat.Fits, CommandFormat.zeroField]

theorem exists_formatI_eq_ok {w : Word} {i : BitVec 16 → Instr} :
    (∃ j, formatI w i = .ok j) ↔ CommandFormat.imm.Fits w := by
  simp [formatI_eq_ok_iff, CommandFormat.Fits, CommandFormat.zeroField]

/-- Along the rows of the decoder: each has the opcode and the format of a row of the table, and a word of any other
opcode fits none. -/
theorem exists_decodeFields_iff_formatTable {w : Word} :
    (∃ i, decodeFields w = .ok i) ↔ ∃ p ∈ formatTable, opcodeField w = p.1 ∧ p.2.Fits w := by
  unfold decodeFields
  simp only [formatTable, List.exists_mem_cons_iff, List.not_mem_nil]
  split
  case h_39 => grind
  all_goals
    next hop => simp [hop, exists_formatR_eq_ok, exists_formatI_eq_ok]

theorem exists_row_iff_exists_encode {w : Word} :
    (∃ row ∈ opcodeTable, w &&& row.2 = row.1) ↔ ∃ i, encode i = w := by
  calc (∃ row ∈ opcodeTable, w &&& row.2 = row.1)
      ↔ ∃ p ∈ formatTable, w &&& p.2.mask = matchWord p.1 := by simp [opcodeTable_eq]
    _ ↔ ∃ p ∈ formatTable, opcodeField w = p.1 ∧ p.2.Fits w :=
        exists_congr fun _ => and_congr_right and_mask_eq_iff
    _ ↔ ∃ i, decodeFields w = .ok i := exists_decodeFields_iff_formatTable.symm
    _ ↔ ∃ i, encode i = w := exists_congr fun _ => decodeFields_eq_ok_iff

/-! ### The two exclusions, read from the word -/

theorem extractLsb'_opcode (w : Word) : w.extractLsb' 24 8 = BitVec.ofNat 8 (opcodeField w) := by
  apply BitVec.eq_of_toNat_eq
  simp [opcodeField, Nat.shiftRight_eq_div_pow]

theorem extractLsb'_opcodeHigh (w : Word) : w.extractLsb' 28 4 = BitVec.ofNat 4 (opcodeField w / 16) := by
  apply BitVec.eq_of_toNat_eq
  simp [opcodeField, Nat.shiftRight_eq_div_pow, Nat.div_div_eq_div_mul]

theorem extractLsb'_eq_iff_regField {w : Word} {a b : Nat} :
    w.extractLsb' a 4 = w.extractLsb' b 4 ↔ regField w a = regField w b := by
  rw [← BitVec.toNat_inj]
  simp [regField, Nat.shiftRight_eq_div_pow]

theorem absentUnitWord_encode {feat : BitVec 3} {i : Instr} :
    absentUnitWord feat (encode i) ↔ i.unitPresent feat = false := by
  rw [absentUnitWord, extractLsb'_opcode, extractLsb'_opcodeHigh, opcodeField_encode]
  cases i <;> simp [Instr.opcode, Instr.unitPresent, Instr.featBit]

/-- Seven commands have two destinations of one file, and their words name them in the fields that R24 compares; no other
command's opcode is among those compared. -/
theorem twiceNamedWord_encode {i : Instr} : twiceNamedWord (encode i) ↔ i.distinctDests = false := by
  simp only [twiceNamedWord, extractLsb'_opcode, extractLsb'_eq_iff_regField, opcodeField_encode]
  cases i with
  | pdiv | cosets | dec | decbm | decmg | rsdec | rsdecmv =>
    simp [Instr.opcode, Instr.distinctDests, Instr.scalarDests, Instr.vectorDests, encode, regField_packR]
  | _ => simp [Instr.opcode, Instr.distinctDests, Instr.scalarDests, Instr.vectorDests]

theorem wellFormed_iff_word {feat : BitVec 3} {i : Instr} :
    WellFormed feat i = true ↔ ¬ absentUnitWord feat (encode i) ∧ ¬ twiceNamedWord (encode i) := by
  simp [WellFormed, absentUnitWord_encode, twiceNamedWord_encode]

/-! ### The words that decode -/

theorem exists_decode_iff_spellsCommand {feat : BitVec 3} {w : Word} :
    (∃ i, decode feat w = .ok i) ↔ spellsCommand feat w := by
  rw [spellsCommand, exists_row_iff_exists_encode]
  constructor
  · rintro ⟨i, h⟩
    obtain ⟨rfl, hwf⟩ := decode_eq_ok_iff.1 h
    exact ⟨⟨i, rfl⟩, wellFormed_iff_word.1 hwf⟩
  · rintro ⟨⟨i, rfl⟩, hword⟩
    exact ⟨i, decode_eq_ok_iff.2 ⟨rfl, wellFormed_iff_word.2 hword⟩⟩

/-- Settles O3: the table's rows are the decoder's, and its exclusions are those of `WellFormed`. -/
theorem decoderAcceptsExactlyTheTable : Obligations.DecoderAcceptsExactlyTheTable := by
  unfold Obligations.DecoderAcceptsExactlyTheTable
  intro feat w
  exact exists_decode_iff_spellsCommand

theorem not_spellsCommand_iff {feat : BitVec 3} {w : Word} :
    ¬ spellsCommand feat w ↔ ∃ e, decode feat w = .error e := by
  rw [← exists_decode_iff_spellsCommand]
  cases decode feat w <;> simp

/-- Settles O5: a word outside the table is one the decoder refuses, and 0x00 and 0xFF are reserved opcodes. -/
theorem illegalWordOnlyRaises : Obligations.IllegalWordOnlyRaises := by
  unfold Obligations.IllegalWordOnlyRaises
  refine ⟨fun s w rest hp hw => ?_, fun feat => ⟨?_, ?_⟩⟩
  · obtain ⟨e, he⟩ := not_spellsCommand_iff.1 hw
    exact step_illegal hp he
  · exact not_spellsCommand_iff.2 ⟨.reservedOpcode, rfl⟩
  · exact not_spellsCommand_iff.2 ⟨.reservedOpcode, rfl⟩

end Sys2Proof.Machine
end


section
/-! SUPPORT. `GFINIT`: what its check of the parameters answers, and the state in which it ends (R101, R102, R103). -/

namespace Sys2Proof.Machine

/-- A non-negative integer of a scalar register is its number (R11, R21). -/
theorem toInt_eq_toNat_of_nonneg {x : Word} (h : 0 ≤ x.toInt) : x.toInt = x.toNat :=
  BitVec.toInt_eq_toNat_of_lt (BitVec.toInt_pos_iff.1 h)

/-- The default of a degree in 2..8 is the entry of the build's table that R101 names. -/
theorem defaultPrim_of_getElem? {table : Vector Nat 7} {m prim : Nat} (h : table.toList[m - 2]? = some prim) :
    defaultPrim table m = prim := by
  rw [defaultPrim, List.getD_eq_getElem?_getD, Config.mMin, h, Option.getD_some]

/-! ### The check of the parameters (R102) -/

section
variable {table : Vector Nat 7} {m : Nat} {p : Int}

/-- The polynomial in use: the one given or, for 0, the build's default (R101). -/
def polynomialInUse (table : Vector Nat 7) (m : Nat) (p : Int) : Int := if p = 0 then defaultPrim table m else p

theorem polynomialInUse_of_ne_zero (h : p ≠ 0) : polynomialInUse table m p = p := if_neg h

theorem polynomialInUse_zero {prim : Nat} (h : table.toList[m - 2]? = some prim) :
    polynomialInUse table m 0 = prim := by
  rw [polynomialInUse, if_pos rfl, defaultPrim_of_getElem? h]

/-- Accepted parameters pass the check. -/
theorem checkConstruction_of_accepted {prim : Nat} (hp : polynomialInUse table m p = prim) (h : accepted m prim) :
    checkConstruction table m p = .ok (m, prim) := by
  obtain ⟨hm, hshift, hord⟩ := h
  exact checkConstruction_eq_ok.2
    ⟨⟨Int.ofNat_le.2 hm.1, Int.ofNat_le.2 hm.2⟩, rfl, hp.symm, hshift,
      (isPrimitive_iff (le_trans one_le_two hm.1)).2 hord⟩

/-- The degree is checked before the polynomial. -/
theorem checkConstruction_of_degree {m : Int} (h : ¬ (2 ≤ m ∧ m ≤ 8)) :
    checkConstruction table m p = .error .unsupportedFieldDegree :=
  bind_eq_error.2 (.inl (ensure_eq_error.2 ⟨h, rfl⟩))

/-- With a degree in 2..8, a polynomial from which no field can be built is an invalid parameter. -/
theorem checkConstruction_of_not_accepted (hm : 2 ≤ m ∧ m ≤ 8)
    (h : polynomialInUse table m p < 0 ∨ ¬ accepted m (polynomialInUse table m p).toNat) :
    checkConstruction table m p = .error .invalidParameters := by
  have hdeg : (Config.mMin : Int) ≤ m ∧ (m : Int) ≤ Config.mMax := ⟨Int.ofNat_le.2 hm.1, Int.ofNat_le.2 hm.2⟩
  refine bind_eq_error.2 (.inr ⟨(), ensure_eq_ok.2 hdeg, bind_eq_error.2 ?_⟩)
  by_cases hshape : 0 ≤ polynomialInUse table m p ∧ (polynomialInUse table m p).toNat >>> m = 1
  · refine .inr ⟨(), ensure_eq_ok.2 hshape, bind_eq_error.2 (.inl (ensure_eq_error.2 ⟨fun hprim => ?_, rfl⟩))⟩
    exact h.elim (not_lt.2 hshape.1) (absurd (accepted_of_checked hm hshape.2 hprim))
  · exact .inl (ensure_eq_error.2 ⟨hshape, rfl⟩)

end

/-! ### The end of the command -/

section
variable {sa sb : SReg} {s : State} {x y : Word}

/-- `GFINIT` with written operands ends the old field and constructs the new one (R103). -/
theorem exec_gfinit_of_holds (hx : holdsS s sa x) (hy : holdsS s sb y) : exec (.gfinit sa sb) s =
    finish s.dropField (checkConstruction s.defaultPrims x.toInt y.toInt >>= fun p =>
      .ok (s.dropField.installField p.1 p.2 (gfBuild p.1 p.2).1 (gfBuild p.1 p.2).2)) := by
  have hread : gfinitOperands sa sb s = .ok (x, y) :=
    bind_eq_ok.2 ⟨x, readS_eq_ok.2 hx, bind_eq_ok.2 ⟨y, readS_eq_ok.2 hy, rfl⟩⟩
  rw [exec_gfinit_of_ok hread, constructField_eq, dropField_defaultPrims]

/-- Parameters that pass the check give the field they name. -/
theorem exec_gfinit_of_check_ok (hx : holdsS s sa x) (hy : holdsS s sb y) {m prim : Nat}
    (hc : checkConstruction s.defaultPrims x.toInt y.toInt = .ok (m, prim)) :
    exec (.gfinit sa sb) s = .next ((Effect.field m prim).run s) := by
  rw [exec_gfinit_of_holds hx hy]
  exact finish_eq_complete (bind_eq_ok.2 ⟨(m, prim), hc, rfl⟩)

/-- Parameters that fail the check leave the engine without a field (R306). -/
theorem exec_gfinit_of_check_error (hx : holdsS s sa x) (hy : holdsS s sb y) {e : Err}
    (hc : checkConstruction s.defaultPrims x.toInt y.toInt = .error e) :
    exec (.gfinit sa sb) s = .next ((Effect.noField e).run s) := by
  rw [exec_gfinit_of_holds hx hy]
  exact finish_eq_raise (bind_eq_error.2 (.inl hc))

end

/-- Settles O24: the polynomial in use is the accepted one, given or the build's default. -/
theorem gfinitBuildsTheField : Obligations.GfinitBuildsTheField := by
  unfold Obligations.GfinitBuildsTheField
  intro sa sb s x y m prim hx hy hm hp hacc
  have huse : polynomialInUse s.defaultPrims m y.toInt = prim := by
    rcases hp with ⟨hp, hne⟩ | ⟨rfl, hdefault⟩
    · rw [polynomialInUse_of_ne_zero (by omega), hp]
    · exact polynomialInUse_zero hdefault
  exact exec_gfinit_of_check_ok hx hy (by rw [hm]; exact checkConstruction_of_accepted huse hacc)

/-- Settles O25: each clause makes the check of R102 fail, the first and the third by the polynomial in use. -/
theorem gfinitRefusesBadParameters : Obligations.GfinitRefusesBadParameters := by
  unfold Obligations.GfinitRefusesBadParameters
  intro sa sb s x y hx hy
  have refuses : 2 ≤ x.toInt ∧ x.toInt ≤ 8 → (polynomialInUse s.defaultPrims x.toNat y.toInt < 0 ∨
      ¬ accepted x.toNat (polynomialInUse s.defaultPrims x.toNat y.toInt).toNat) →
      exec (.gfinit sa sb) s = .next ((Effect.noField .invalidParameters).run s) := by
    intro hm hbad
    have hxn : x.toInt = x.toNat := toInt_eq_toNat_of_nonneg (by omega)
    refine exec_gfinit_of_check_error hx hy ?_
    rw [hxn]
    exact checkConstruction_of_not_accepted (by omega) hbad
  refine ⟨fun hm hy0 prim hdefault hbad => refuses hm (.inr ?_), fun hm => ?_, fun hm hy0 hbad => refuses hm ?_⟩
  · subst hy0
    have huse : polynomialInUse s.defaultPrims x.toNat (0 : Word).toInt = prim := polynomialInUse_zero hdefault
    rwa [huse, Int.toNat_natCast]
  · exact exec_gfinit_of_check_error hx hy (checkConstruction_of_degree hm)
  · have hne : y.toInt ≠ 0 := BitVec.toInt_ne.2 hy0
    rw [polynomialInUse_of_ne_zero hne]
    refine or_iff_not_imp_left.2 fun hpos => ?_
    rw [toInt_eq_toNat_of_nonneg (not_lt.1 hpos), Int.toNat_natCast]
    exact hbad.resolve_left hpos

end Sys2Proof.Machine
end


section
/-! SUPPORT. The commands of field arithmetic and the table reads: their operands, and the values they write
(R105 to R114). -/

namespace Sys2Proof.Machine

/-! ### Operands and results -/

section
variable {s : State} {x y : Word}

theorem isElem_iff_le_maxElem : isElem s x ↔ 0 ≤ x.toInt ∧ x.toInt ≤ maxElem s := by
  have := Nat.two_pow_pos s.m.toNat
  have hcast : ((2 ^ s.m.toNat : Nat) : Int) = 2 ^ s.m.toNat := by push_cast; rfl
  rw [isElem, maxElem]
  omega

theorem fieldElem_of_isElem (h : isElem s x) : fieldElem s x = .ok x.toNat :=
  fieldElem_eq_ok.2 ⟨isElem_iff_le_maxElem.1 h, by rw [toInt_eq_toNat_of_nonneg h.1, Int.toNat_natCast]⟩

theorem fieldElem_of_not_isElem (h : ¬ isElem s x) : fieldElem s x = .error .elementOutOfRange :=
  fieldElem_eq_error.2 ⟨fun hx => h (isElem_iff_le_maxElem.2 hx), rfl⟩

/-- 0 is an element of every field. -/
theorem isElem_zero : isElem s 0 := ⟨le_rfl, show (0 : Int) < 2 ^ s.m.toNat by positivity⟩

/-- An entry of `EXP` that is there is the one the function layer reads (R51, R104). -/
theorem alphaPow_of_read {e : Int} {v : Byte} (h : Memory.read s.exp (e % s.n.toNat).toNat = some v) :
    alphaPow s.field e = v.toNat := by
  have hread : Memory.read s.field.exp (e % s.field.n).toNat = some v := h
  rw [alphaPow, expEntry, hread, Option.getD_some]

/-- An entry of `LOG` that is there is the one the function layer reads (R52). -/
theorem logOf_of_read {a : Nat} {l : BitVec 9} (h : Memory.read s.log a = some l) : logOf s.field a = l.toInt := by
  have hread : Memory.read s.field.log a = some l := h
  rw [logOf, logEntry, hread, Option.getD_some]

end

/-- A register that is written as an integer holds it as its bits (R13, R21). -/
theorem complete_putS (s : State) (r : SReg) (v : Int) : complete (putS s r v) = wroteS s r (BitVec.ofInt 32 v) := rfl

theorem ofInt_toNat_eq_setWidth (v : Byte) : BitVec.ofInt 32 (v.toNat : Int) = v.setWidth 32 := by
  rw [BitVec.ofInt_natCast, BitVec.ofNat_toNat]

theorem ofInt_gfAdd (x y : Word) : BitVec.ofInt 32 (gfAdd x.toNat y.toNat : Int) = x ^^^ y := by
  rw [gfAdd, ← BitVec.toNat_xor, BitVec.ofInt_natCast, BitVec.ofNat_toNat, BitVec.setWidth_eq]

theorem toNat_ne_zero {x : Word} (h : x ≠ 0) : x.toNat ≠ 0 := BitVec.toNat_ne_iff_ne.2 h

/-! ### The rules of the commands -/

/-- The rule that `GFADD` and `GFMUL` share: an operation on two field elements (R106, R108). -/
def elementRule (op : Nat → Nat → Nat) (sd sa sb : SReg) (s : State) : Except Err State := do
  requireState s 1
  let x ← readS s sa
  let y ← readS s sb
  let a ← fieldElem s x
  let b ← fieldElem s y
  return putS s sd (op a b)

theorem exec_gfadd_eq (sd sa sb : SReg) (s : State) :
    exec (.gfadd sd sa sb) s = finish s (elementRule gfAdd sd sa sb s) := rfl

theorem exec_gfmul_eq (sd sa sb : SReg) (s : State) :
    exec (.gfmul sd sa sb) s = finish s (elementRule (gfMul s.field) sd sa sb s) := rfl

section
variable {s : State} {sa sb : SReg} {x y : Word} {sd : SReg}

/-- A rule that begins with the check of `STATE` and the read of one written register goes on with its data (R303). -/
theorem requireState_readS_bind (hs : 1 ≤ s.state.toNat) (hx : holdsS s sa x) (f : Word → Except Err State) :
    (requireState s 1 >>= fun _ => readS s sa >>= f) = f x := by
  rw [requireState, ensure_eq_ok.2 hs, readS_eq_ok.2 hx]
  rfl

theorem readS_bind (hx : holdsS s sa x) (f : Word → Except Err State) : (readS s sa >>= f) = f x := by
  rw [readS_eq_ok.2 hx]
  rfl

/-- `LDEXP` reads one entry of `EXP` below n (R113). -/
theorem exec_ldexp_of_holds (hs : 1 ≤ s.state.toNat) (hx : holdsS s sa x) : exec (.ldexp sd sa) s =
    finish s (ensure (0 ≤ x.toInt ∧ x.toInt < s.n.toNat) .indexOutOfRange >>= fun _ =>
      .ok (s.setScalar sd ((expEntry s.exp x.toInt.toNat).setWidth 32))) :=
  congrArg (finish s) (requireState_readS_bind hs hx _)

/-- `LDLOG` reads one entry of `LOG` at an element (R114). -/
theorem exec_ldlog_of_holds (hs : 1 ≤ s.state.toNat) (hx : holdsS s sa x) : exec (.ldlog sd sa) s =
    finish s (ensure (0 ≤ x.toInt ∧ x.toInt ≤ maxElem s) .indexOutOfRange >>= fun _ =>
      .ok (s.setScalar sd ((logEntry s.log x.toInt.toNat).signExtend 32))) :=
  congrArg (finish s) (requireState_readS_bind hs hx _)

/-- `GFINV` checks the range of its operand, then that it is not 0 (R112). -/
theorem exec_gfinv_of_holds (hs : 1 ≤ s.state.toNat) (hx : holdsS s sa x) : exec (.gfinv sd sa) s =
    finish s (fieldElem s x >>= fun a => ensure (a ≠ 0) .zeroInverse >>= fun _ =>
      .ok (putS s sd (gfInv s.field a))) :=
  congrArg (finish s) (requireState_readS_bind hs hx _)

/-- `GFPOW` checks the range of its base alone (R110). -/
theorem exec_gfpow_of_holds (hs : 1 ≤ s.state.toNat) (hx : holdsS s sa x) (hy : holdsS s sb y) :
    exec (.gfpow sd sa sb) s =
      finish s (fieldElem s x >>= fun a => .ok (putS s sd (gfPow s.field a y.toInt))) :=
  congrArg (finish s) ((requireState_readS_bind hs hx _).trans (readS_bind hy _))

theorem elementRule_of_holds {op : Nat → Nat → Nat} (hs : 1 ≤ s.state.toNat) (hx : holdsS s sa x)
    (hy : holdsS s sb y) : elementRule op sd sa sb s =
      fieldElem s x >>= fun a => fieldElem s y >>= fun b => .ok (putS s sd (op a b)) :=
  (requireState_readS_bind hs hx _).trans (readS_bind hy _)

/-- The rule of `GFADD` and `GFMUL` for two field elements (R106, R108). -/
theorem finish_elementRule_of_isElem {op : Nat → Nat → Nat} (hs : 1 ≤ s.state.toNat) (hx : holdsS s sa x)
    (hy : holdsS s sb y) (hxe : isElem s x) (hye : isElem s y) :
    finish s (elementRule op sd sa sb s) = .next (wroteS s sd (BitVec.ofInt 32 (op x.toNat y.toNat))) := by
  rw [elementRule_of_holds hs hx hy, fieldElem_of_isElem hxe, fieldElem_of_isElem hye]
  rfl

/-- The rule of `GFADD` and `GFMUL` for an operand outside the field (R106, R108). -/
theorem finish_elementRule_of_not_isElem {op : Nat → Nat → Nat} (hs : 1 ≤ s.state.toNat) (hx : holdsS s sa x)
    (hy : holdsS s sb y) (h : ¬ (isElem s x ∧ isElem s y)) :
    finish s (elementRule op sd sa sb s) = .next (raise .elementOutOfRange s) := by
  rw [elementRule_of_holds hs hx hy]
  by_cases hxe : isElem s x
  · rw [fieldElem_of_isElem hxe, fieldElem_of_not_isElem fun hye => h ⟨hxe, hye⟩]
    rfl
  · rw [fieldElem_of_not_isElem hxe]
    rfl

/-- `GFPOW` of a field element (R110). -/
theorem exec_gfpow_of_isElem (hs : 1 ≤ s.state.toNat) (hx : holdsS s sa x) (hy : holdsS s sb y) (hxe : isElem s x) :
    exec (.gfpow sd sa sb) s = .next (wroteS s sd (BitVec.ofInt 32 (gfPow s.field x.toNat y.toInt))) := by
  rw [exec_gfpow_of_holds hs hx hy, fieldElem_of_isElem hxe]
  rfl

/-- `GFINV` of a nonzero field element (R112). -/
theorem exec_gfinv_of_isElem (hs : 1 ≤ s.state.toNat) (hx : holdsS s sa x) (hxe : isElem s x) (hx0 : x ≠ 0) :
    exec (.gfinv sd sa) s = .next (wroteS s sd (BitVec.ofInt 32 (gfInv s.field x.toNat))) := by
  rw [exec_gfinv_of_holds hs hx, ← complete_putS]
  exact finish_eq_complete (bind_eq_ok.2
    ⟨x.toNat, fieldElem_of_isElem hxe, bind_eq_ok.2 ⟨(), ensure_eq_ok.2 (toNat_ne_zero hx0), rfl⟩⟩)

end

/-! ### The values of the function layer -/

@[simp] theorem gfMul_zero_left (F : Field) (b : Nat) : gfMul F 0 b = 0 := if_pos (.inl rfl)

@[simp] theorem gfMul_zero_right (F : Field) (a : Nat) : gfMul F a 0 = 0 := if_pos (.inr rfl)

section
variable {F : Field} {a b : Nat}

theorem gfMul_of_ne_zero (ha : a ≠ 0) (hb : b ≠ 0) : gfMul F a b = alphaPow F (logOf F a + logOf F b) :=
  if_neg (not_or.2 ⟨ha, hb⟩)

theorem gfPow_zero_left (e : Int) : gfPow F 0 e = if e = 0 then 1 else 0 := if_pos rfl

theorem gfPow_of_ne_zero (ha : a ≠ 0) (e : Int) : gfPow F a e = alphaPow F (logOf F a * e) := if_neg ha

theorem gfInv_of_ne_zero (ha : a ≠ 0) : gfInv F a = alphaPow F (F.n - logOf F a) := if_neg ha

end

/-- Settles O28, by the rule that the two commands share. -/
theorem gfaddAndGfmulCompute : Obligations.GfaddAndGfmulCompute := by
  unfold Obligations.GfaddAndGfmulCompute
  intro sd sa sb s x y hx hy hs
  rw [exec_gfadd_eq, exec_gfmul_eq]
  refine ⟨fun ⟨hxe, hye⟩ => ?_, fun h => ⟨finish_elementRule_of_not_isElem hs hx hy h,
    finish_elementRule_of_not_isElem hs hx hy h⟩⟩
  rw [finish_elementRule_of_isElem hs hx hy hxe hye, finish_elementRule_of_isElem hs hx hy hxe hye, ofInt_gfAdd]
  refine ⟨rfl, ?_, fun hx0 hy0 la lb e hla hlb he => ?_⟩
  · rintro (rfl | rfl)
    · simp
    · simp
  · rw [gfMul_of_ne_zero (toNat_ne_zero hx0) (toNat_ne_zero hy0), logOf_of_read hla, logOf_of_read hlb,
      alphaPow_of_read he, ofInt_toNat_eq_setWidth]

/-- Settles O29: the range check of the operand first, then the value the function layer gives. -/
theorem gfpowAndGfinvCompute : Obligations.GfpowAndGfinvCompute := by
  unfold Obligations.GfpowAndGfinvCompute
  intro sd sa s x hx hs
  refine ⟨fun sb e hy => ⟨?_, fun hxe hx0 l v hl hv => ?_, fun hxe => ?_⟩, fun hxe hx0 l v hl hv => ?_, ?_,
    fun hxe => ?_⟩
  · rintro rfl
    have he : e.toInt = 0 ↔ e = 0 := BitVec.toInt_inj (y := 0)
    have hzero : (0 : Word).toNat = 0 := rfl
    rw [exec_gfpow_of_isElem hs hx hy isElem_zero, hzero, gfPow_zero_left, if_congr he rfl rfl]
    split
    · rfl
    · rfl
  · rw [exec_gfpow_of_isElem hs hx hy hxe, gfPow_of_ne_zero (toNat_ne_zero hx0), logOf_of_read hl,
      alphaPow_of_read hv, ofInt_toNat_eq_setWidth]
  · rw [exec_gfpow_of_holds hs hx hy, fieldElem_of_not_isElem hxe]
    rfl
  · have hn : (s.field.n : Int) = s.n.toNat := rfl
    rw [exec_gfinv_of_isElem hs hx hxe hx0, gfInv_of_ne_zero (toNat_ne_zero hx0), logOf_of_read hl, hn,
      alphaPow_of_read hv, ofInt_toNat_eq_setWidth]
  · rintro rfl
    rw [exec_gfinv_of_holds hs hx, fieldElem_of_isElem isElem_zero]
    rfl
  · rw [exec_gfinv_of_holds hs hx, fieldElem_of_not_isElem hxe]
    rfl

/-- Settles O30: each of the two commands is one check of the index and one read. -/
theorem ldexpAndLdlogReadTables : Obligations.LdexpAndLdlogReadTables := by
  unfold Obligations.LdexpAndLdlogReadTables
  intro sd sa s x hx hs
  have index : 0 ≤ x.toInt → x.toInt.toNat = x.toNat := fun h0 => by
    rw [toInt_eq_toNat_of_nonneg h0, Int.toNat_natCast]
  rw [exec_ldexp_of_holds hs hx, exec_ldlog_of_holds hs hx, isElem_iff_le_maxElem]
  refine ⟨fun h0 hn e he => ?_, fun h => ?_, fun h l hl => ?_, fun h => ?_⟩
  · rw [ensure_eq_ok.2 ⟨h0, hn⟩, index h0, expEntry, he]
    rfl
  · exact finish_eq_raise (bind_eq_error.2 (.inl (ensure_eq_error.2 ⟨h, rfl⟩)))
  · rw [ensure_eq_ok.2 h, index h.1, logEntry, hl]
    rfl
  · exact finish_eq_raise (bind_eq_error.2 (.inl (ensure_eq_error.2 ⟨h, rfl⟩)))

end Sys2Proof.Machine
end


section
/-! SUPPORT. The field that `gfBuild` makes from accepted parameters: its nonzero elements are the powers of α with
integer exponents, on which the function layer is arithmetic of exponents, and the product by a power of α is an
iterated product by α (R100, R104 to R111). -/

namespace Sys2Proof.Machine

/-! ### The product by α is linear -/

section
variable {m prim : Nat}

/-- The product by α of an element: the bit that leaves it decides whether it is reduced (R100). -/
theorem mulAlpha_eq (hm : 1 ≤ m) {x : Nat} (hx : x < 2 ^ m) :
    mulAlpha m prim x = x <<< 1 ^^^ if x.testBit (m - 1) then prim else 0 := by
  obtain ⟨k, rfl⟩ : ∃ k, m = k + 1 := ⟨m - 1, by omega⟩
  have hbit : x.testBit k = true ↔ x <<< 1 ≥ 2 ^ (k + 1) := by
    rw [Nat.shiftLeft_eq]
    constructor
    · intro h
      have := Nat.ge_two_pow_of_testBit h
      omega
    · intro h
      have hdiv : x / 2 ^ k = 1 := Nat.div_eq_of_lt_le (by omega) (by omega)
      rw [Nat.testBit_eq_decide_div_mod_eq, hdiv]
      rfl
  simp only [mulAlpha, Nat.add_sub_cancel, hbit]
  split
  · rfl
  · rw [Nat.xor_zero]

theorem mulAlpha_xor (hm : 1 ≤ m) {x y : Nat} (hx : x < 2 ^ m) (hy : y < 2 ^ m) :
    mulAlpha m prim (x ^^^ y) = mulAlpha m prim x ^^^ mulAlpha m prim y := by
  rw [mulAlpha_eq hm (Nat.xor_lt_two_pow hx hy), mulAlpha_eq hm hx, mulAlpha_eq hm hy, Nat.shiftLeft_xor_distrib,
    Nat.testBit_xor]
  cases x.testBit (m - 1) <;> cases y.testBit (m - 1) <;> simp [Nat.xor_comm, Nat.xor_left_comm]

theorem iterate_mulAlpha_xor (hm : 1 ≤ m) (hprim : prim >>> m = 1) (i : Nat) {x y : Nat} (hx : x < 2 ^ m)
    (hy : y < 2 ^ m) :
    (mulAlpha m prim)^[i] (x ^^^ y) = (mulAlpha m prim)^[i] x ^^^ (mulAlpha m prim)^[i] y := by
  induction i generalizing x y with
  | zero => rfl
  | succ i ih =>
    simp only [Function.iterate_succ_apply]
    rw [mulAlpha_xor hm hx hy, ih (mulAlpha_lt hprim hx) (mulAlpha_lt hprim hy)]

/-- The powers of α repeat with period n (R102). -/
theorem iterate_mulAlpha_mod (h : orderIsN m prim) (i : Nat) :
    (mulAlpha m prim)^[i % (2 ^ m - 1)] 1 = (mulAlpha m prim)^[i] 1 :=
  Function.IsPeriodicPt.iterate_mod_apply h.2 i

end

/-! ### The built field -/

/-- The field of the tables that `gfBuild` makes (R100). -/
def builtField (m prim : Nat) : Field := ⟨2 ^ m - 1, (gfBuild m prim).1, (gfBuild m prim).2⟩

section
variable {m prim : Nat}

theorem accepted.pos (h : accepted m prim) : 1 ≤ m := one_le_two.trans h.degree.1

/-- The polynomial of an accepted field has degree m (R102). -/
theorem accepted.shape (h : accepted m prim) : prim >>> m = 1 := by
  obtain ⟨-, hshape, -⟩ := h
  exact hshape

/-- In an accepted field α has order n (R102). -/
theorem accepted.order (h : accepted m prim) : orderIsN m prim := by
  obtain ⟨-, -, hord⟩ := h
  exact hord

/-- The least exponent of a power of α, below n. -/
theorem accepted.exponent (h : accepted m prim) (e : Int) :
    ∃ i : Nat, i < 2 ^ m - 1 ∧ e % (builtField m prim).n = i := by
  obtain ⟨hm, -⟩ := h.degree
  have hpow : 2 ^ 2 ≤ 2 ^ m := Nat.pow_le_pow_right (by omega) hm
  have hpos : 0 < (((builtField m prim).n : Nat) : Int) := by
    show 0 < ((2 ^ m - 1 : Nat) : Int)
    omega
  have hlt := Int.emod_lt_of_pos e hpos
  have hnonneg := Int.emod_nonneg e hpos.ne'
  exact ⟨(e % (builtField m prim).n).toNat, (Int.toNat_lt hnonneg).2 hlt, (Int.toNat_of_nonneg hnonneg).symm⟩

/-- The entry of `EXP` for an exponent below n (R33). -/
theorem alphaPow_of_emod_eq (h : accepted m prim) {e : Int} {i : Nat} (hi : i < 2 ^ m - 1)
    (he : e % (builtField m prim).n = i) : alphaPow (builtField m prim) e = (mulAlpha m prim)^[i] 1 := by
  obtain ⟨v, -, hv, hpow, -⟩ := gfBuild_inverse h hi
  have hread : Memory.read (builtField m prim).exp i = some v := hv
  rw [alphaPow, he, Int.toNat_natCast, expEntry, hread, Option.getD_some, hpow]

/-- `LOG` of a power of α is its least exponent (R34). -/
theorem logOf_alphaPow (h : accepted m prim) (e : Int) :
    logOf (builtField m prim) (alphaPow (builtField m prim) e) = e % (builtField m prim).n := by
  obtain ⟨i, hi, he⟩ := h.exponent e
  obtain ⟨v, l, -, hpow, -, hl, hli⟩ := gfBuild_inverse h hi
  have hread : Memory.read (builtField m prim).log ((mulAlpha m prim)^[i] 1) = some l := by rwa [hpow] at hl
  rw [alphaPow_of_emod_eq h hi he, logOf, logEntry, hread, Option.getD_some, hli, he]

/-- A power of α depends on its exponent modulo n only (R104). -/
theorem alphaPow_congr {F : Field} {e f : Int} (h : e ≡ f [ZMOD F.n]) : alphaPow F e = alphaPow F f := by
  rw [alphaPow, alphaPow, h]

/-- The powers of α with natural exponents are the successive products by α. -/
theorem alphaPow_natCast (h : accepted m prim) (i : Nat) :
    alphaPow (builtField m prim) i = (mulAlpha m prim)^[i] 1 := by
  obtain ⟨j, hj, he⟩ := h.exponent i
  have hij : i % (2 ^ m - 1) = j := Int.natCast_inj.1 (by rw [← he]; rfl)
  rw [alphaPow_of_emod_eq h hj he, ← hij, iterate_mulAlpha_mod h.order]

theorem alphaPow_zero (h : accepted m prim) : alphaPow (builtField m prim) 0 = 1 := alphaPow_natCast h 0

theorem alphaPow_ne_zero (h : accepted m prim) (e : Int) : alphaPow (builtField m prim) e ≠ 0 := by
  obtain ⟨i, hi, he⟩ := h.exponent e
  rw [alphaPow_of_emod_eq h hi he]
  exact iterate_mulAlpha_ne_zero h.order hi.le

/-- Every nonzero element is a power of α (R33). -/
theorem exists_alphaPow_eq (h : accepted m prim) {a : Nat} (ha : a < 2 ^ m) (ha0 : a ≠ 0) :
    ∃ i : Nat, a = alphaPow (builtField m prim) i := by
  obtain ⟨i, -, rfl⟩ := exists_iterate_mulAlpha h.pos h.shape h.order
    (Nat.one_le_iff_ne_zero.2 ha0) ha
  exact ⟨i, (alphaPow_natCast h i).symm⟩

/-! ### The function layer on powers of α -/

/-- The product by logarithms (R107). -/
theorem gfMul_alphaPow (h : accepted m prim) (e f : Int) :
    gfMul (builtField m prim) (alphaPow (builtField m prim) e) (alphaPow (builtField m prim) f) =
      alphaPow (builtField m prim) (e + f) := by
  rw [gfMul_of_ne_zero (alphaPow_ne_zero h e) (alphaPow_ne_zero h f), logOf_alphaPow h, logOf_alphaPow h]
  exact alphaPow_congr ((Int.mod_modEq e _).add (Int.mod_modEq f _))

/-- The power by logarithms (R109). -/
theorem gfPow_alphaPow (h : accepted m prim) (e f : Int) :
    gfPow (builtField m prim) (alphaPow (builtField m prim) e) f = alphaPow (builtField m prim) (e * f) := by
  rw [gfPow_of_ne_zero (alphaPow_ne_zero h e), logOf_alphaPow h]
  exact alphaPow_congr ((Int.mod_modEq e _).mul_right f)

/-- The inverse by logarithms (R111). -/
theorem gfInv_alphaPow (h : accepted m prim) (e : Int) :
    gfInv (builtField m prim) (alphaPow (builtField m prim) e) = alphaPow (builtField m prim) (-e) := by
  rw [gfInv_of_ne_zero (alphaPow_ne_zero h e), logOf_alphaPow h]
  refine alphaPow_congr ?_
  calc (builtField m prim).n - e % (builtField m prim).n
      ≡ 0 - e [ZMOD (builtField m prim).n] := (Int.modEq_zero_iff_dvd.2 dvd_rfl).sub (Int.mod_modEq e _)
    _ = -e := zero_sub e

/-- The product by α^i is the i-fold product by α. -/
theorem gfMul_alphaPow_eq_iterate (h : accepted m prim) (i : Nat) {b : Nat} (hb : b < 2 ^ m) :
    gfMul (builtField m prim) (alphaPow (builtField m prim) i) b = (mulAlpha m prim)^[i] b := by
  by_cases hb0 : b = 0
  · rw [hb0, gfMul_zero_right, Function.iterate_fixed mulAlpha_zero]
  · obtain ⟨j, rfl⟩ := exists_alphaPow_eq h hb hb0
    rw [gfMul_alphaPow h, ← Nat.cast_add, alphaPow_natCast h, alphaPow_natCast h, Function.iterate_add_apply]

/-! ### The laws of the field (R115) -/

theorem gfMul_comm (F : Field) (a b : Nat) : gfMul F a b = gfMul F b a :=
  if_congr or_comm rfl (congrArg (alphaPow F) (add_comm _ _))

variable {a b c : Nat}

theorem gfMul_gfInv (h : accepted m prim) (ha : a < 2 ^ m) (ha0 : a ≠ 0) :
    gfMul (builtField m prim) a (gfInv (builtField m prim) a) = 1 := by
  obtain ⟨i, rfl⟩ := exists_alphaPow_eq h ha ha0
  rw [gfInv_alphaPow h, gfMul_alphaPow h, add_neg_cancel, alphaPow_zero h]

theorem gfMul_assoc (h : accepted m prim) (ha : a < 2 ^ m) (hb : b < 2 ^ m) (hc : c < 2 ^ m) :
    gfMul (builtField m prim) (gfMul (builtField m prim) a b) c =
      gfMul (builtField m prim) a (gfMul (builtField m prim) b c) := by
  by_cases ha0 : a = 0
  · simp [ha0]
  by_cases hb0 : b = 0
  · simp [hb0]
  by_cases hc0 : c = 0
  · simp [hc0]
  obtain ⟨i, rfl⟩ := exists_alphaPow_eq h ha ha0
  obtain ⟨j, rfl⟩ := exists_alphaPow_eq h hb hb0
  obtain ⟨k, rfl⟩ := exists_alphaPow_eq h hc hc0
  simp only [gfMul_alphaPow h, add_assoc]

theorem gfMul_gfAdd (h : accepted m prim) (ha : a < 2 ^ m) (hb : b < 2 ^ m) (hc : c < 2 ^ m) :
    gfMul (builtField m prim) a (gfAdd b c) =
      gfAdd (gfMul (builtField m prim) a b) (gfMul (builtField m prim) a c) := by
  by_cases ha0 : a = 0
  · simp [ha0, gfAdd]
  obtain ⟨i, rfl⟩ := exists_alphaPow_eq h ha ha0
  have hbc : gfAdd b c < 2 ^ m := Nat.xor_lt_two_pow hb hc
  rw [gfMul_alphaPow_eq_iterate h i hb, gfMul_alphaPow_eq_iterate h i hc, gfMul_alphaPow_eq_iterate h i hbc]
  exact iterate_mulAlpha_xor h.pos h.shape i hb hc

theorem gfPow_add (h : accepted m prim) (ha : a < 2 ^ m) (ha0 : a ≠ 0) (e f : Int) :
    gfPow (builtField m prim) a (e + f) =
      gfMul (builtField m prim) (gfPow (builtField m prim) a e) (gfPow (builtField m prim) a f) := by
  obtain ⟨i, rfl⟩ := exists_alphaPow_eq h ha ha0
  rw [gfPow_alphaPow h, gfPow_alphaPow h, gfPow_alphaPow h, gfMul_alphaPow h, mul_add]

theorem gfPow_order (h : accepted m prim) (ha : a < 2 ^ m) (ha0 : a ≠ 0) :
    gfPow (builtField m prim) a (builtField m prim).n = 1 := by
  obtain ⟨i, rfl⟩ := exists_alphaPow_eq h ha ha0
  rw [gfPow_alphaPow h, alphaPow_congr (Int.modEq_zero_iff_dvd.2 (dvd_mul_left _ _)), alphaPow_zero h]

/-- A product of nonzero elements is a power of α again, and no such power is 0. -/
theorem eq_zero_of_gfMul_eq_zero (h : accepted m prim) (hab : gfMul (builtField m prim) a b = 0) :
    a = 0 ∨ b = 0 := by
  by_contra hne
  obtain ⟨ha0, hb0⟩ := not_or.1 hne
  rw [gfMul_of_ne_zero ha0 hb0] at hab
  exact alphaPow_ne_zero h _ hab

end

/-! ### The field after `GFINIT` -/

/-- The field of a `GFINIT` that raises nothing is the built one (R103, R36). -/
theorem accepted.run_field {m prim : Nat} (h : accepted m prim) (s : State) :
    ((Effect.field m prim).run s).m.toNat = m ∧ ((Effect.field m prim).run s).field = builtField m prim := by
  obtain ⟨hm, -, hn⟩ := h.installField s.dropField (gfBuild m prim).1 (gfBuild m prim).2
  exact ⟨hm, congrArg (fun n => (⟨n, (gfBuild m prim).1, (gfBuild m prim).2⟩ : Field)) hn⟩

/-- Settles O27: the field is the built one, and its laws are those of the exponents of α; a product distributes
because a product by α is linear. -/
theorem fieldLawsAfterGfinit : Obligations.FieldLawsAfterGfinit := by
  unfold Obligations.FieldLawsAfterGfinit
  intro sa sb s t hexec herr
  obtain ⟨m, prim, h, rfl⟩ := gfinit_builds hexec herr
  obtain ⟨hm, hfield⟩ := h.run_field s
  have hn : (((Effect.field m prim).run s).n.toNat : Int) = (builtField m prim).n := by rw [← hfield]; rfl
  rw [hm, hn, hfield]
  exact ⟨rfl, fun a b c ha hb hc => ⟨gfMul_comm _ a b, gfMul_gfInv h ha, gfMul_assoc h ha hb hc,
    gfMul_gfAdd h ha hb hc, gfPow_add h ha, gfPow_order h ha, eq_zero_of_gfMul_eq_zero h⟩⟩

end Sys2Proof.Machine
end

section
/-! SUPPORT. The polynomial functions of 41_poly_algebra.md entry by entry: the degree, the sum and the convolution, and
the lengths of a division's results and of a gcd. Nothing here needs the tables to be those of a field. -/

namespace Sys2Proof.Machine

/-! ### The degree (R131) -/

/-- The degree is below an index exactly when every entry from that index on is 0. -/
theorem polyDeg_lt_iff {p : List Nat} {n : Nat} : polyDeg p < n ↔ ∀ i, n ≤ i → p.getD i 0 = 0 := by
  induction p generalizing n with
  | nil =>
    simp only [polyDeg, List.getD_nil, implies_true, iff_true]
    omega
  | cons c cs ih =>
    have hrest : polyDeg cs < 0 ↔ ∀ i, cs.getD i 0 = 0 := by simpa using ih (n := 0)
    have hdeg := polyDeg_bounds cs
    cases n with
    | zero =>
      have hsplit : (∀ i, 0 ≤ i → (c :: cs).getD i 0 = 0) ↔ c = 0 ∧ polyDeg cs < 0 := by
        rw [hrest]
        exact ⟨fun h => ⟨h 0 le_rfl, fun i => h (i + 1) (Nat.zero_le _)⟩,
          fun ⟨hc, h⟩ i _ => by cases i with | zero => exact hc | succ i => exact h i⟩
      rw [hsplit, Nat.cast_zero, polyDeg]
      split_ifs <;> omega
    | succ n =>
      have hsplit : (∀ i, n + 1 ≤ i → (c :: cs).getD i 0 = 0) ↔ polyDeg cs < n := by
        rw [ih]
        exact ⟨fun h i hi => h (i + 1) (Nat.succ_le_succ hi),
          fun h i hi => by cases i with | zero => omega | succ i => exact h i (Nat.le_of_succ_le_succ hi)⟩
      rw [hsplit, polyDeg]
      split_ifs <;> omega

/-- The degree is negative exactly for the zero polynomial, the empty one among them. -/
theorem polyDeg_neg_iff {p : List Nat} : polyDeg p < 0 ↔ ∀ x ∈ p, x = 0 := by
  induction p with
  | nil => simp [polyDeg]
  | cons c cs ih =>
    rw [List.forall_mem_cons, ← ih, polyDeg]
    split_ifs <;> omega

/-- The degree is the index of the last nonzero entry. -/
theorem polyDeg_eq_iff {p : List Nat} {n : Nat} :
    polyDeg p = n ↔ p.getD n 0 ≠ 0 ∧ ∀ i, n < i → p.getD i 0 = 0 := by
  have hle : polyDeg p < n + 1 ↔ ∀ i, n < i → p.getD i 0 = 0 := polyDeg_lt_iff (n := n + 1)
  constructor
  · intro h
    have htop := hle.1 (by omega)
    refine ⟨fun h0 => ?_, htop⟩
    have : polyDeg p < n := polyDeg_lt_iff.2 fun i hi => (Nat.eq_or_lt_of_le hi).elim (fun e => e ▸ h0) (htop i)
    omega
  · rintro ⟨h0, htop⟩
    have hlow : ¬ polyDeg p < n := fun h => h0 (polyDeg_lt_iff.1 h n le_rfl)
    have := hle.2 htop
    omega

/-! ### The entries of a register -/

theorem elems_eq_nil {xs : List Byte} : elems xs = [] ↔ xs = [] := List.map_eq_nil_iff

@[simp] theorem elems_length (xs : List Byte) : (elems xs).length = xs.length := List.length_map _

theorem getD_elems (xs : List Byte) (i : Nat) : (elems xs).getD i 0 = (xs.getD i 0).toNat :=
  List.getD_map xs 0 BitVec.toNat

/-- The polynomial of a register is zero exactly when every entry of the register is. -/
theorem polyDeg_elems_neg_iff {xs : List Byte} : polyDeg (elems xs) < 0 ↔ ∀ x ∈ xs, x = 0 := by
  rw [polyDeg_neg_iff, elems, List.forall_mem_map]
  exact forall₂_congr fun x _ => BitVec.toNat_inj (y := 0)

theorem polyDeg_elems_nonneg_iff {xs : List Byte} : 0 ≤ polyDeg (elems xs) ↔ ∃ x ∈ xs, x ≠ 0 := by
  rw [← not_lt, polyDeg_elems_neg_iff]
  push Not
  rfl

/-! ### The sum and the convolution (R12, R133) -/

@[simp] theorem gfAdd_zero_left (a : Nat) : gfAdd 0 a = a := Nat.zero_xor a

@[simp] theorem gfAdd_zero_right (a : Nat) : gfAdd a 0 = a := Nat.xor_zero a

@[simp] theorem gfAdd_self (a : Nat) : gfAdd a a = 0 := Nat.xor_self a

theorem getD_polyAdd (p q : List Nat) (k : Nat) : (polyAdd p q).getD k 0 = gfAdd (p.getD k 0) (q.getD k 0) := by
  induction p, q using polyAdd.induct generalizing k with
  | case1 ys => simp [polyAdd]
  | case2 xs h => simp [polyAdd]
  | case3 x xs y ys ih =>
    cases k with
    | zero => rfl
    | succ k => simpa [polyAdd] using ih k

theorem polyAdd_length (p q : List Nat) : (polyAdd p q).length = max p.length q.length := by
  induction p, q using polyAdd.induct with
  | case1 ys => simp [polyAdd]
  | case2 xs h => simp [polyAdd]
  | case3 x xs y ys ih => simp [polyAdd, ih]

theorem polyMul_nil_right (F : Field) (p : List Nat) : polyMul F p [] = [] := by
  cases p <;> simp [polyMul]

/-- The product is one row of the convolution above the product with the rest (R133). -/
theorem polyMul_cons (F : Field) (x : Nat) (xs : List Nat) {q : List Nat} (hq : q ≠ []) :
    polyMul F (x :: xs) q = polyAdd (q.map (gfMul F x)) (0 :: polyMul F xs q) := if_neg hq

/-- The product's length comes from the stored lengths (R133). -/
theorem polyMul_length (F : Field) (p q : List Nat) :
    (polyMul F p q).length = if p = [] ∨ q = [] then 0 else p.length + q.length - 1 := by
  by_cases hq : q = []
  · simp [hq, polyMul_nil_right]
  have hpos := List.length_pos_iff.2 hq
  induction p with
  | nil => simp [polyMul]
  | cons x xs ih =>
    rw [polyMul_cons F x xs hq, polyAdd_length, List.length_map, List.length_cons, ih]
    by_cases hxs : xs = []
    · simp [hxs, hq]; omega
    · simp [hxs, hq]; omega

theorem gfSum_cons (x : Nat) (xs : List Nat) : gfSum (x :: xs) = gfAdd x (gfSum xs) := by
  have hfold : ∀ (l : List Nat) (a b : Nat), l.foldl gfAdd (gfAdd a b) = gfAdd a (l.foldl gfAdd b) := by
    intro l
    induction l with
    | nil => simp
    | cons y ys ih =>
      intro a b
      simp only [List.foldl_cons, ← ih]
      simp only [gfAdd, Nat.xor_assoc]
  have := hfold xs x 0
  simpa [gfSum] using this

theorem gfSum_eq_zero {xs : List Nat} (h : ∀ x ∈ xs, x = 0) : gfSum xs = 0 := by
  induction xs with
  | nil => rfl
  | cons x xs ih =>
    obtain ⟨rfl, hxs⟩ := List.forall_mem_cons.1 h
    rw [gfSum_cons, ih hxs, gfAdd_self]

/-- Multiplying every entry by an element multiplies each one. -/
theorem getD_map_gfMul (F : Field) (x : Nat) (p : List Nat) (k : Nat) :
    (p.map (gfMul F x)).getD k 0 = gfMul F x (p.getD k 0) := by
  have h := List.getD_map p 0 (n := k) (gfMul F x)
  rwa [gfMul_zero_right] at h

/-- Entry k of a product is the sum of the products of entries whose indices add up to k (R133). -/
theorem getD_polyMul (F : Field) (p q : List Nat) (k : Nat) : (polyMul F p q).getD k 0 =
    gfSum ((List.range (k + 1)).map fun i => gfMul F (p.getD i 0) (q.getD (k - i) 0)) := by
  by_cases hq : q = []
  · rw [hq, polyMul_nil_right, gfSum_eq_zero (by simp)]
    rfl
  induction p generalizing k with
  | nil => rw [gfSum_eq_zero (by simp), polyMul, List.getD_nil]
  | cons x xs ih =>
    rw [polyMul_cons F x xs hq, getD_polyAdd, getD_map_gfMul, List.range_succ_eq_map, List.map_cons, gfSum_cons,
      List.getD_cons_zero, Nat.sub_zero]
    congr 1
    cases k with
    | zero => rfl
    | succ k =>
      rw [List.map_map, List.getD_cons_succ, ih k]
      exact congrArg gfSum (List.map_congr_left fun i _ => by simp)

/-! ### The lengths of a division's results and of a gcd (R135, R137) -/

theorem divLoop_quotient_length (F : Field) (b : List Nat) (db lead count : Nat) (w q : List Nat) :
    (divLoop F b db lead count w q).1.length = count + q.length := by
  induction count generalizing w q with
  | zero => simp [divLoop]
  | succ count ih =>
    rw [divLoop]
    split
    · rw [ih, List.length_cons]; omega
    · rw [ih, List.length_cons]; omega

/-- The quotient of a division has max(da - db + 1, 0) entries (R135). -/
theorem divideBy_quotient_length (F : Field) (a b : List Nat) (db : Nat) :
    (divideBy F a b db).1.length = (polyDeg a - db + 1).toNat :=
  divLoop_quotient_length F b db _ _ a []

/-- A zero dividend leaves a zero remainder. -/
theorem polyDeg_remainder_of_zero (F : Field) {a : List Nat} (b : List Nat) (db : Nat) (ha : polyDeg a < 0) :
    polyDeg (divideBy F a b db).2 < 0 := by
  have hsteps : (polyDeg a - db + 1).toNat = 0 := by have := polyDeg_bounds a; omega
  have hzero := polyDeg_lt_iff (n := 0).1 ha
  rw [polyDeg_neg_iff, divideBy, hsteps, divLoop, List.forall_mem_map]
  exact fun i _ => hzero i (Nat.zero_le i)

theorem gcdLoop_of_zero_right (F : Field) (fuel : Nat) (a : List Nat) {b : List Nat} (hb : polyDeg b < 0) :
    gcdLoop F fuel a b = a := by
  cases fuel with
  | zero => rfl
  | succ fuel => rw [gcdLoop, if_pos hb]

/-- One pass of Euclid's algorithm (R137). -/
theorem gcdLoop_succ (F : Field) (fuel : Nat) (a : List Nat) {b : List Nat} (hb : 0 ≤ polyDeg b) :
    gcdLoop F (fuel + 1) a b = gcdLoop F fuel b (divideBy F a b (polyDeg b).toNat).2 := by
  rw [gcdLoop, if_neg (not_lt.2 hb)]

theorem polyGcd_of_zero_right (F : Field) (a : List Nat) {b : List Nat} (hb : polyDeg b < 0) : polyGcd F a b = a :=
  gcdLoop_of_zero_right F _ a hb

/-- The bound on the passes leaves room for the first (R350). -/
theorem polyGcd_of_nonzero_right (F : Field) (a : List Nat) {b : List Nat} (hb : 0 ≤ polyDeg b) :
    polyGcd F a b = gcdLoop F (polyDeg b).toNat b (divideBy F a b (polyDeg b).toNat).2 := by
  rw [polyGcd, Int.toNat_add hb (by decide), Int.toNat_one, gcdLoop_succ F _ a hb]

theorem polyGcd_of_zero_left (F : Field) {a b : List Nat} (ha : polyDeg a < 0) (hb : 0 ≤ polyDeg b) :
    polyGcd F a b = b := by
  rw [polyGcd_of_nonzero_right F a hb, gcdLoop_of_zero_right F _ b (polyDeg_remainder_of_zero F b _ ha)]

theorem gcdLoop_length (F : Field) (fuel : Nat) (a b : List Nat) :
    (gcdLoop F fuel a b).length ≤ max a.length b.length := by
  induction fuel generalizing a b with
  | zero => exact le_max_left _ _
  | succ fuel ih =>
    by_cases hb : polyDeg b < 0
    · rw [gcdLoop_of_zero_right F _ a hb]
      exact le_max_left _ _
    · rw [gcdLoop_succ F fuel a (not_lt.1 hb)]
      have hrem := ih b (divideBy F a b (polyDeg b).toNat).2
      have := polyDeg_bounds b
      rw [divideBy_remainder_length] at hrem
      omega

/-- The dividend of a pass of Euclid's algorithm is not zero, if the first one is not. -/
theorem polyDeg_gcdLoop_nonneg (F : Field) (fuel : Nat) {a : List Nat} (b : List Nat) (ha : 0 ≤ polyDeg a) :
    0 ≤ polyDeg (gcdLoop F fuel a b) := by
  induction fuel generalizing a b with
  | zero => exact ha
  | succ fuel ih =>
    by_cases hb : polyDeg b < 0
    · rwa [gcdLoop_of_zero_right F _ a hb]
    · rw [gcdLoop_succ F fuel a (not_lt.1 hb)]
      exact ih _ (not_lt.1 hb)

/-- The gcd of two polynomials that are not both zero is not zero (R137). -/
theorem polyDeg_polyGcd_nonneg (F : Field) {a b : List Nat} (h : 0 ≤ polyDeg a ∨ 0 ≤ polyDeg b) :
    0 ≤ polyDeg (polyGcd F a b) := by
  by_cases hb : 0 ≤ polyDeg b
  · rw [polyGcd_of_nonzero_right F a hb]
    exact polyDeg_gcdLoop_nonneg F _ _ hb
  · rw [polyGcd_of_zero_right F a (not_le.1 hb)]
    exact h.resolve_right hb

end Sys2Proof.Machine
end

section
/-! SUPPORT. The commands of 41_poly_algebra.md: the checks that four of them share, and what each one writes. -/

namespace Sys2Proof.Machine

/-! ### The checks of the operands (R130) -/

/-- The rule that `PMUL`, `PDIV`, `PGCD` and `PLCM` share: an operation on two polynomials over the field (R130). -/
def polyRule (op : List Nat → List Nat → Except Err State) (va vb : VReg) (s : State) : Except Err State := do
  requireState s 1
  let x ← readV s va
  let y ← readV s vb
  let a ← polyOperand s x
  let b ← polyOperand s y
  op a b

theorem exec_pmul_eq (vd va vb : VReg) (s : State) :
    exec (.pmul vd va vb) s = finish s (polyRule (fun a b => putV s vd (polyMul s.field a b)) va vb s) := rfl

theorem exec_pgcd_eq (vd va vb : VReg) (s : State) :
    exec (.pgcd vd va vb) s = finish s (polyRule (fun a b => putV s vd (polyGcd s.field a b)) va vb s) := rfl

theorem exec_plcm_eq (vd va vb : VReg) (s : State) : exec (.plcm vd va vb) s =
    finish s (polyRule (fun a b => polyLcm s.field s.vlmax.toNat a b >>= putV s vd) va vb s) := rfl

/-- With two different destinations `PDIV` is a legal command, and its rule is the shared one (R136). -/
theorem exec_pdiv_eq {vq vr : VReg} (h : vq ≠ vr) (va vb : VReg) (s : State) : exec (.pdiv vq vr va vb) s =
    finish s (polyRule (fun a b => polyDiv s.field a b >>= fun p => putV s vq p.1 >>= fun t => putV t vr p.2)
      va vb s) := by
  have hwf : WellFormed s.feat (.pdiv vq vr va vb) = true := by
    simp [WellFormed, Instr.unitPresent, Instr.featBit, Instr.distinctDests, Instr.scalarDests, Instr.vectorDests, h]
  have hlegal : requireLegal s (.pdiv vq vr va vb) = .ok () := ensure_eq_ok.2 hwf
  show finish s (requireLegal s (.pdiv vq vr va vb) >>= fun _ => _) = _
  rw [hlegal]
  rfl

section
variable {s : State} {va vb vd : VReg} {xs ys : List Byte}

theorem allElems_iff_le_maxElem : allElems s xs ↔ ∀ x ∈ xs, x.toNat ≤ maxElem s :=
  forall₂_congr fun _ _ => Nat.lt_iff_le_pred (Nat.two_pow_pos _)

theorem polyOperand_of_allElems (h : allElems s xs) : polyOperand s xs = .ok (elems xs) :=
  entriesAtMost_eq_ok.2 ⟨allElems_iff_le_maxElem.1 h, rfl⟩

theorem polyOperand_of_not_allElems (h : ¬ allElems s xs) : polyOperand s xs = .error .elementOutOfRange :=
  entriesAtMost_eq_error.2 ⟨fun hx => h (allElems_iff_le_maxElem.2 hx), rfl⟩

theorem polyRule_of_holds {op : List Nat → List Nat → Except Err State} (hx : holdsV s va xs) (hy : holdsV s vb ys)
    (hs : 1 ≤ s.state.toNat) :
    polyRule op va vb s = polyOperand s xs >>= fun a => polyOperand s ys >>= fun b => op a b := by
  rw [polyRule, requireState, ensure_eq_ok.2 hs, readV_eq_ok.2 hx, readV_eq_ok.2 hy]
  rfl

/-- Operands over the field reach the operation (R130). -/
theorem polyRule_of_allElems {op : List Nat → List Nat → Except Err State} (hx : holdsV s va xs)
    (hy : holdsV s vb ys) (hs : 1 ≤ s.state.toNat) (h : allElems s xs ∧ allElems s ys) :
    polyRule op va vb s = op (elems xs) (elems ys) := by
  obtain ⟨hxe, hye⟩ := h
  rw [polyRule_of_holds hx hy hs, polyOperand_of_allElems hxe, polyOperand_of_allElems hye]
  rfl

/-- An entry outside the field, of either operand, raises the error before the operation (R130). -/
theorem finish_polyRule_of_not_allElems {op : List Nat → List Nat → Except Err State} (hx : holdsV s va xs)
    (hy : holdsV s vb ys) (hs : 1 ≤ s.state.toNat) (h : ¬ (allElems s xs ∧ allElems s ys)) :
    finish s (polyRule op va vb s) = .next (raise .elementOutOfRange s) := by
  rw [polyRule_of_holds hx hy hs]
  by_cases hxe : allElems s xs
  · rw [polyOperand_of_allElems hxe, polyOperand_of_not_allElems fun hye => h ⟨hxe, hye⟩]
    rfl
  · rw [polyOperand_of_not_allElems hxe]
    rfl

/-- A sequence that fits is written, and the command ends (R13, R305). -/
theorem finish_putV_of_le {p : List Nat} (h : p.length ≤ s.vlmax.toNat) :
    finish s (putV s vd p) = .next (wroteV s vd (toBytes p)) :=
  finish_eq_complete (putV_eq_ok.2 ⟨h, rfl⟩)

/-- A sequence that does not fit raises `LengthOverflow` (R13). -/
theorem finish_putV_of_lt {p : List Nat} (h : s.vlmax.toNat < p.length) :
    finish s (putV s vd p) = .next (raise .lengthOverflow s) :=
  finish_eq_raise (putV_eq_error.2 ⟨rfl, h⟩)

/-! ### Division and the least common multiple -/

theorem polyDiv_of_zero (F : Field) (a : List Nat) {b : List Nat} (hb : polyDeg b < 0) :
    polyDiv F a b = .error .divisionByZeroPolynomial := if_pos hb

/-- A division by a nonzero polynomial answers, with results of the lengths of R135. -/
theorem exists_polyDiv_of_nonzero (F : Field) (a : List Nat) {b : List Nat} (hb : 0 ≤ polyDeg b) :
    ∃ q r, polyDiv F a b = .ok (q, r) ∧ q.length = (polyDeg a - polyDeg b + 1).toNat ∧
      (r.length : Int) = polyDeg b :=
  ⟨(divideBy F a b (polyDeg b).toNat).1, (divideBy F a b (polyDeg b).toNat).2, polyDiv_eq_ok.2 ⟨hb, rfl⟩,
    by rw [divideBy_quotient_length, Int.toNat_of_nonneg hb],
    by rw [divideBy_remainder_length, Int.toNat_of_nonneg hb]⟩

/-- The length check of the product comes before the division (R140). -/
theorem polyLcm_of_lt {F : Field} {vlmax : Nat} {a b : List Nat} (h : vlmax < (polyMul F a b).length) :
    polyLcm F vlmax a b = .error .lengthOverflow :=
  bind_eq_error.2 (.inl (ensure_eq_error.2 ⟨not_le.2 h, rfl⟩))

theorem polyLcm_of_le {F : Field} {vlmax : Nat} {a b : List Nat} (h : (polyMul F a b).length ≤ vlmax) :
    polyLcm F vlmax a b = polyDiv F (polyMul F a b) (polyGcd F a b) >>= fun p => .ok p.1 := by
  rw [polyLcm, ensure_eq_ok.2 h]
  rfl

/-- A product that fits and a gcd that is not zero leave the quotient of the two (R140). -/
theorem polyLcm_of_polyDiv {F : Field} {vlmax : Nat} {a b q r : List Nat} (h : (polyMul F a b).length ≤ vlmax)
    (hdiv : polyDiv F (polyMul F a b) (polyGcd F a b) = .ok (q, r)) : polyLcm F vlmax a b = .ok q := by
  rw [polyLcm_of_le h, hdiv]
  rfl

end

/-! ### The statements -/

/-- Settles O31: the degree of the entries of a register, which `PDEG` reads whatever `STATE` is. -/
theorem pdegFindsTheDegree : Obligations.PdegFindsTheDegree := by
  unfold Obligations.PdegFindsTheDegree
  intro sd va s xs hx
  have hexec : exec (.pdeg sd va) s = .next (wroteS s sd (BitVec.ofInt 32 (polyDeg (elems xs)))) :=
    finish_eq_complete (r := readV s va >>= fun a => .ok (putS s sd (polyDeg (elems a))))
      (bind_eq_ok.2 ⟨xs, readV_eq_ok.2 hx, rfl⟩)
  rw [hexec]
  refine ⟨fun hzero => ?_, fun i hi hne hlast => ?_⟩
  · have hneg := polyDeg_elems_neg_iff.2 hzero
    have hdeg : polyDeg (elems xs) = -1 := by have := polyDeg_bounds (elems xs); omega
    rw [hdeg]
  · have hdeg : polyDeg (elems xs) = i := by
      refine polyDeg_eq_iff.2 ⟨?_, fun j hj => ?_⟩
      · rw [getD_elems, List.getD_eq_getElem _ _ hi]
        exact BitVec.toNat_ne_iff_ne.2 hne
      · rw [getD_elems]
        by_cases hjl : j < xs.length
        · rw [List.getD_eq_getElem _ _ hjl, hlast j hjl hj]
          rfl
        · rw [List.getD_eq_default _ _ (not_lt.1 hjl)]
          rfl
    rw [hdeg, BitVec.ofInt_natCast]

/-- Settles O32: the product's entries are those of `getD_polyMul`, its length that of `polyMul_length`. -/
theorem pmulWritesTheConvolution : Obligations.PmulWritesTheConvolution := by
  unfold Obligations.PmulWritesTheConvolution
  intro vd va vb s xs ys hx hy hs
  rw [exec_pmul_eq]
  refine ⟨finish_polyRule_of_not_allElems hx hy hs, fun h len hlen => ?_⟩
  have hprod : (polyMul s.field (elems xs) (elems ys)).length = len := by
    simp only [polyMul_length, elems_eq_nil, elems_length, hlen]
  rw [polyRule_of_allElems hx hy hs h]
  subst hprod
  exact ⟨finish_putV_of_lt, fun hfits => ⟨_, rfl, fun k _ => getD_polyMul _ _ _ k, finish_putV_of_le hfits⟩⟩

/-- Settles O33: both results fit a register because the operands do. -/
theorem pdivWritesQuotientAndRemainder : Obligations.PdivWritesQuotientAndRemainder := by
  unfold Obligations.PdivWritesQuotientAndRemainder
  intro vq vr va vb s xs ys hx hy hs hne hxl hyl
  rw [exec_pdiv_eq hne]
  refine ⟨finish_polyRule_of_not_allElems hx hy hs, fun h hzero => ?_, fun h hnonzero => ?_⟩
  · rw [polyRule_of_allElems hx hy hs h, polyDiv_of_zero _ _ (polyDeg_elems_neg_iff.2 hzero)]
    rfl
  · have hb := polyDeg_elems_nonneg_iff.2 hnonzero
    obtain ⟨q, r, hdiv, hq, hr⟩ := exists_polyDiv_of_nonzero s.field (elems xs) hb
    have hdegx := polyDeg_bounds (elems xs)
    have hdegy := polyDeg_bounds (elems ys)
    rw [elems_length] at hdegx hdegy
    have hquot : putV s vq q = .ok (s.setVector vq (toBytes q)) := putV_eq_ok.2 ⟨by omega, rfl⟩
    have hboth : (putV s vq q >>= fun t => putV t vr r) = .ok ((s.setVector vq (toBytes q)).setVector vr (toBytes r)) :=
      bind_eq_ok.2 ⟨_, hquot, putV_eq_ok.2 ⟨by rw [setVector_vlmax]; omega, rfl⟩⟩
    refine ⟨q, r, hdiv, hq, hr, ?_⟩
    rw [polyRule_of_allElems hx hy hs h, hdiv]
    exact finish_eq_complete hboth

/-- Settles O35: a gcd is no longer than the longer operand, so it fits. -/
theorem pgcdWritesTheGcd : Obligations.PgcdWritesTheGcd := by
  unfold Obligations.PgcdWritesTheGcd
  intro vd va vb s xs ys hx hy hs hxl hyl
  rw [exec_pgcd_eq]
  refine ⟨finish_polyRule_of_not_allElems hx hy hs, fun h => ?_⟩
  have hfits : (polyGcd s.field (elems xs) (elems ys)).length ≤ s.vlmax.toNat :=
    (gcdLoop_length _ _ _ _).trans (by simp [hxl, hyl])
  rw [polyRule_of_allElems hx hy hs h, finish_putV_of_le hfits]
  refine ⟨rfl, fun hzero => ?_, fun hzero hnonzero => ?_⟩
  · rw [polyGcd_of_zero_right _ _ (polyDeg_elems_neg_iff.2 hzero), toBytes, map_ofNat_elems]
  · rw [polyGcd_of_zero_left _ (polyDeg_elems_neg_iff.2 hzero) (polyDeg_elems_nonneg_iff.2 hnonzero), toBytes,
      map_ofNat_elems]

/-- Settles O37: the gcd is zero exactly when both operands are, and the quotient is no longer than the product. -/
theorem plcmWritesTheLcm : Obligations.PlcmWritesTheLcm := by
  unfold Obligations.PlcmWritesTheLcm
  intro vd va vb s xs ys hx hy hs
  rw [exec_plcm_eq]
  refine ⟨finish_polyRule_of_not_allElems hx hy hs, ?_⟩
  rintro h p rfl
  rw [polyRule_of_allElems hx hy hs h]
  refine ⟨fun hlong => ?_, fun hfits hxz hyz => ?_, fun hfits hnonzero => ?_⟩
  · rw [polyLcm_of_lt hlong]
    rfl
  · have hgcd : polyDeg (polyGcd s.field (elems xs) (elems ys)) < 0 := by
      rw [polyGcd_of_zero_right _ _ (polyDeg_elems_neg_iff.2 hyz)]
      exact polyDeg_elems_neg_iff.2 hxz
    rw [polyLcm_of_le hfits, polyDiv_of_zero _ _ hgcd]
    rfl
  · have hgcd := polyDeg_polyGcd_nonneg s.field
      (hnonzero.imp polyDeg_elems_nonneg_iff.2 polyDeg_elems_nonneg_iff.2)
    obtain ⟨q, r, hdiv, hq, -⟩ := exists_polyDiv_of_nonzero s.field (polyMul s.field (elems xs) (elems ys)) hgcd
    have hdeg := polyDeg_bounds (polyMul s.field (elems xs) (elems ys))
    refine ⟨q, r, hdiv, ?_⟩
    rw [polyLcm_of_polyDiv hfits hdiv]
    exact finish_putV_of_le (by omega)

end Sys2Proof.Machine
end

section
/-! SUPPORT. The tables of an accepted polynomial make the numbers below 2^m a field, and polynomials over it, as the
function layer holds them, are Mathlib's polynomials over that field (R12, R107, R115). -/

namespace Sys2Proof.Machine

/-! ### The elements as a ring -/

/-- `φ` reads the numbers below 2^m as the elements of the ring `K`, so that `gfAdd` is the sum and `gfMul` the product,
and the digit of a division is a quotient (R105, R107, R135). -/
structure Represents (F : Field) (m : Nat) {K : Type} [CommRing K] (φ : Nat → K) : Prop where
  zero : φ 0 = 0
  injective : ∀ {a b : Nat}, a < 2 ^ m → b < 2 ^ m → φ a = φ b → a = b
  surjective : ∀ x : K, ∃ a < 2 ^ m, φ a = x
  add : ∀ {a b : Nat}, a < 2 ^ m → b < 2 ^ m → φ (gfAdd a b) = φ a + φ b
  mul : ∀ {a b : Nat}, a < 2 ^ m → b < 2 ^ m → φ (gfMul F a b) = φ a * φ b
  mul_lt : ∀ {a b : Nat}, a < 2 ^ m → b < 2 ^ m → gfMul F a b < 2 ^ m
  digit_lt : ∀ {lead c : Nat}, c < 2 ^ m → quotientDigit F lead c < 2 ^ m
  digit_mul : ∀ {lead c : Nat}, lead < 2 ^ m → lead ≠ 0 → c < 2 ^ m → c ≠ 0 →
    gfMul F (quotientDigit F lead c) lead = c

/-- The numbers below 2^m. -/
def Element (m : Nat) : Type := { a : Nat // a < 2 ^ m }

section
variable {m prim : Nat}

theorem alphaPow_lt (h : accepted m prim) (e : Int) : alphaPow (builtField m prim) e < 2 ^ m := by
  obtain ⟨i, hi, he⟩ := h.exponent e
  rw [alphaPow_of_emod_eq h hi he]
  exact iterate_mulAlpha_lt h.pos h.shape i

theorem gfMul_lt (h : accepted m prim) (a b : Nat) : gfMul (builtField m prim) a b < 2 ^ m := by
  by_cases ha : a = 0
  · rw [ha, gfMul_zero_left]
    exact Nat.two_pow_pos m
  by_cases hb : b = 0
  · rw [hb, gfMul_zero_right]
    exact Nat.two_pow_pos m
  rw [gfMul_of_ne_zero ha hb]
  exact alphaPow_lt h _

theorem one_gfMul (h : accepted m prim) {a : Nat} (ha : a < 2 ^ m) : gfMul (builtField m prim) 1 a = a := by
  have := gfMul_alphaPow_eq_iterate h 0 ha
  rwa [Nat.cast_zero, alphaPow_zero h] at this

/-- The digit of a division is below 2^m (R135). -/
theorem quotientDigit_lt (h : accepted m prim) {lead c : Nat} (hc : c < 2 ^ m) :
    quotientDigit (builtField m prim) lead c < 2 ^ m := by
  rw [quotientDigit]
  split
  · exact hc
  · exact alphaPow_lt h _

/-- The digit of a division by logarithms is the quotient (R135). -/
theorem gfMul_quotientDigit (h : accepted m prim) {lead c : Nat} (hl : lead < 2 ^ m) (hl0 : lead ≠ 0)
    (hc : c < 2 ^ m) (hc0 : c ≠ 0) :
    gfMul (builtField m prim) (quotientDigit (builtField m prim) lead c) lead = c := by
  rw [quotientDigit]
  split
  case isTrue h1 => rw [h1, gfMul_comm, one_gfMul h hc]
  case isFalse =>
    obtain ⟨i, rfl⟩ := exists_alphaPow_eq h hl hl0
    obtain ⟨j, rfl⟩ := exists_alphaPow_eq h hc hc0
    rw [gfMul_alphaPow h, logOf_alphaPow h, logOf_alphaPow h]
    refine alphaPow_congr ?_
    calc (j : Int) % (builtField m prim).n - i % (builtField m prim).n + i
        ≡ j - i + i [ZMOD (builtField m prim).n] := ((Int.mod_modEq _ _).sub (Int.mod_modEq _ _)).add_right _
      _ = j := sub_add_cancel _ _

/-- The ring of the elements: each law is one of R115. -/
@[reducible] def elementRing (h : accepted m prim) : CommRing (Element m) :=
  letI : Add (Element m) := ⟨fun a b => ⟨gfAdd a.1 b.1, Nat.xor_lt_two_pow a.2 b.2⟩⟩
  letI : Mul (Element m) := ⟨fun a b => ⟨gfMul (builtField m prim) a.1 b.1, gfMul_lt h a.1 b.1⟩⟩
  letI : Neg (Element m) := ⟨id⟩
  letI : Zero (Element m) := ⟨⟨0, Nat.two_pow_pos m⟩⟩
  letI : One (Element m) := ⟨⟨1, Nat.one_lt_two_pow (Nat.one_le_iff_ne_zero.1 h.pos)⟩⟩
  CommRing.ofMinimalAxioms
    (fun a b c => Subtype.ext (Nat.xor_assoc a.1 b.1 c.1))
    (fun a => Subtype.ext (gfAdd_zero_left a.1))
    (fun a => Subtype.ext (gfAdd_self a.1))
    (fun a b c => Subtype.ext (gfMul_assoc h a.2 b.2 c.2))
    (fun a b => Subtype.ext (gfMul_comm _ a.1 b.1))
    (fun a => Subtype.ext (one_gfMul h a.2))
    (fun a b c => Subtype.ext (gfMul_gfAdd h a.2 b.2 c.2))

/-- The element that a number stands for. -/
def toElement (m a : Nat) : Element m := ⟨a % 2 ^ m, Nat.mod_lt a (Nat.two_pow_pos m)⟩

theorem toElement_of_lt {a : Nat} (ha : a < 2 ^ m) : toElement m a = ⟨a, ha⟩ := Subtype.ext (Nat.mod_eq_of_lt ha)

/-- The field that `gfBuild` makes is a ring, with the quotients that a division needs (R115). -/
theorem represents_toElement (h : accepted m prim) :
    @Represents (builtField m prim) m (Element m) (elementRing h) (toElement m) := by
  let _ := elementRing h
  refine ⟨toElement_of_lt (Nat.two_pow_pos m), fun ha hb e => ?_, fun x => ⟨x.1, x.2, toElement_of_lt x.2⟩,
    fun ha hb => ?_, fun ha hb => ?_, fun _ _ => gfMul_lt h _ _, quotientDigit_lt h, gfMul_quotientDigit h⟩
  · rw [toElement_of_lt ha, toElement_of_lt hb] at e
    exact congrArg Subtype.val e
  · rw [toElement_of_lt ha, toElement_of_lt hb]
    exact toElement_of_lt (Nat.xor_lt_two_pow ha hb)
  · rw [toElement_of_lt ha, toElement_of_lt hb]
    exact toElement_of_lt (gfMul_lt h _ _)

end

/-- In a configured engine the field in use is the one that `gfBuild` makes from `PRIM` (R36). -/
theorem Inv.field_eq {s : State} (h : Inv s) (hs : 1 ≤ s.state.toNat) :
    accepted s.m.toNat s.prim.toNat ∧ s.field = builtField s.m.toNat s.prim.toNat := by
  obtain ⟨hacc, hn, htables⟩ := h.field_built hs
  refine ⟨hacc, ?_⟩
  rw [builtField, ← htables, ← hn]
  rfl

/-- A configured engine works in a ring of 2^M elements (R36, R115). -/
theorem Inv.exists_represents {s : State} (h : Inv s) (hs : 1 ≤ s.state.toNat) :
    ∃ (K : Type) (_ : CommRing K) (φ : Nat → K), Represents s.field s.m.toNat φ := by
  obtain ⟨hacc, hfield⟩ := h.field_eq hs
  rw [hfield]
  exact ⟨_, elementRing hacc, _, represents_toElement hacc⟩

end Sys2Proof.Machine
end

section
/-! SUPPORT. A sequence of entries as a polynomial over the ring of a configured field: equality as polynomials, sums and
products, what one step of the long division keeps, and what the algorithm of Euclid keeps (R12, R133, R135, R137). -/

namespace Sys2Proof.Machine

open Polynomial

/-! ### Sequences as polynomials (R12) -/

/-- Every entry is an element of the field of degree `m`; `inField s` is this for the configured degree (R11). -/
def overField (m : Nat) (p : List Nat) : Prop := ∀ x ∈ p, x < 2 ^ m

/-- The polynomial of a sequence, entry i being the coefficient of the power i (R12). -/
noncomputable def listPoly {K : Type} [CommRing K] (φ : Nat → K) : List Nat → K[X]
  | [] => 0
  | c :: cs => C (φ c) + X * listPoly φ cs

section
variable {m : Nat} {p q : List Nat}

theorem inField_iff_overField {s : State} : inField s p ↔ overField s.m.toNat p := Iff.rfl

theorem overField_cons {x : Nat} : overField m (x :: p) ↔ x < 2 ^ m ∧ overField m p := List.forall_mem_cons

theorem overField.getD_lt (hp : overField m p) (i : Nat) : p.getD i 0 < 2 ^ m := by
  by_cases hi : i < p.length
  · rw [List.getD_eq_getElem _ _ hi]
    exact hp _ (List.getElem_mem hi)
  · rw [List.getD_eq_default _ _ (not_lt.1 hi)]
    exact Nat.two_pow_pos m

theorem overField_polyAdd (hp : overField m p) (hq : overField m q) : overField m (polyAdd p q) := by
  induction p, q using polyAdd.induct with
  | case1 ys => simpa [polyAdd] using hq
  | case2 xs h => simpa [polyAdd] using hp
  | case3 x xs y ys ih =>
    obtain ⟨hx, hxs⟩ := overField_cons.1 hp
    obtain ⟨hy, hys⟩ := overField_cons.1 hq
    exact overField_cons.2 ⟨Nat.xor_lt_two_pow hx hy, ih hxs hys⟩

end

namespace Represents

variable {F : Field} {m : Nat} {K : Type} [CommRing K] {φ : Nat → K}

theorem coeff_listPoly (hφ : Represents F m φ) (p : List Nat) (i : Nat) :
    (listPoly φ p).coeff i = φ (p.getD i 0) := by
  induction p generalizing i with
  | nil => rw [listPoly, coeff_zero, List.getD_nil, hφ.zero]
  | cons c cs ih =>
    cases i with
    | zero => simp [listPoly]
    | succ i => simpa [listPoly, coeff_C_succ] using ih i

/-- Two sequences over the field are equal as polynomials exactly when their polynomials are equal (R12). -/
theorem listPoly_eq_iff (hφ : Represents F m φ) {p q : List Nat} (hp : overField m p) (hq : overField m q) :
    listPoly φ p = listPoly φ q ↔ polyEq p q := by
  simp only [Polynomial.ext_iff, hφ.coeff_listPoly]
  exact forall_congr' fun i => ⟨hφ.injective (hp.getD_lt i) (hq.getD_lt i), congrArg φ⟩

theorem listPoly_congr (hφ : Represents F m φ) {p q : List Nat} (h : polyEq p q) : listPoly φ p = listPoly φ q :=
  Polynomial.ext fun i => by rw [hφ.coeff_listPoly, hφ.coeff_listPoly, h i]

theorem listPoly_of_polyDeg_neg (hφ : Represents F m φ) {p : List Nat} (h : polyDeg p < 0) : listPoly φ p = 0 :=
  hφ.listPoly_congr (q := []) fun i => polyDeg_lt_iff (n := 0).1 h i (Nat.zero_le i)

/-- The sum has characteristic 2 (R105). -/
theorem add_self (hφ : Represents F m φ) (x : K) : x + x = 0 := by
  obtain ⟨a, ha, rfl⟩ := hφ.surjective x
  rw [← hφ.add ha ha, gfAdd_self, hφ.zero]

theorem poly_add_self (hφ : Represents F m φ) (P : K[X]) : P + P = 0 :=
  Polynomial.ext fun i => by rw [coeff_add, hφ.add_self, coeff_zero]

/-- Every polynomial is that of a sequence over the field. -/
theorem exists_listPoly_eq (hφ : Represents F m φ) (P : K[X]) : ∃ p, overField m p ∧ listPoly φ p = P := by
  choose num num_lt num_eq using hφ.surjective
  refine ⟨(List.range (P.natDegree + 1)).map fun i => num (P.coeff i), ?_, Polynomial.ext fun i => ?_⟩
  · exact List.forall_mem_map.2 fun i _ => num_lt _
  · rw [hφ.coeff_listPoly]
    by_cases hi : i < P.natDegree + 1
    · rw [List.getD_eq_getElem _ _ (by simpa using hi), List.getElem_map, List.getElem_range, num_eq]
    · rw [List.getD_eq_default _ _ (by simpa using hi), hφ.zero, coeff_eq_zero_of_natDegree_lt (by omega)]

/-! ### Sums and products (R105, R133) -/

theorem listPoly_polyAdd (hφ : Represents F m φ) {p q : List Nat} (hp : overField m p) (hq : overField m q) :
    listPoly φ (polyAdd p q) = listPoly φ p + listPoly φ q :=
  Polynomial.ext fun i => by
    rw [coeff_add, hφ.coeff_listPoly, hφ.coeff_listPoly, hφ.coeff_listPoly, getD_polyAdd,
      hφ.add (hp.getD_lt i) (hq.getD_lt i)]

theorem overField_map_gfMul (hφ : Represents F m φ) {x : Nat} {p : List Nat} (hx : x < 2 ^ m) (hp : overField m p) :
    overField m (p.map (gfMul F x)) :=
  List.forall_mem_map.2 fun y hy => hφ.mul_lt hx (hp y hy)

theorem listPoly_map_gfMul (hφ : Represents F m φ) {x : Nat} {p : List Nat} (hx : x < 2 ^ m) (hp : overField m p) :
    listPoly φ (p.map (gfMul F x)) = C (φ x) * listPoly φ p :=
  Polynomial.ext fun i => by
    rw [coeff_C_mul, hφ.coeff_listPoly, hφ.coeff_listPoly, getD_map_gfMul, hφ.mul hx (hp.getD_lt i)]

theorem overField_polyMul (hφ : Represents F m φ) {p q : List Nat} (hp : overField m p) (hq : overField m q) :
    overField m (polyMul F p q) := by
  by_cases hnil : q = []
  · rw [hnil, polyMul_nil_right]
    exact List.forall_mem_nil _
  induction p with
  | nil => exact List.forall_mem_nil _
  | cons x xs ih =>
    obtain ⟨hx, hxs⟩ := overField_cons.1 hp
    rw [polyMul_cons F x xs hnil]
    exact overField_polyAdd (hφ.overField_map_gfMul hx hq) (overField_cons.2 ⟨Nat.two_pow_pos m, ih hxs⟩)

theorem listPoly_polyMul (hφ : Represents F m φ) {p q : List Nat} (hp : overField m p) (hq : overField m q) :
    listPoly φ (polyMul F p q) = listPoly φ p * listPoly φ q := by
  by_cases hnil : q = []
  · rw [hnil, polyMul_nil_right, listPoly, mul_zero]
  induction p with
  | nil => rw [polyMul, listPoly, zero_mul]
  | cons x xs ih =>
    obtain ⟨hx, hxs⟩ := overField_cons.1 hp
    have hrest := overField_cons.2 ⟨Nat.two_pow_pos m, hφ.overField_polyMul hxs hq⟩
    rw [polyMul_cons F x xs hnil, hφ.listPoly_polyAdd (hφ.overField_map_gfMul hx hq) hrest,
      hφ.listPoly_map_gfMul hx hq, listPoly, listPoly, hφ.zero, ih hxs, C_0]
    ring

/-- Divisibility in the words of the claims (R137). -/
theorem exists_polyMul_iff_dvd (hφ : Represents F m φ) {p d : List Nat} (hp : overField m p) (hd : overField m d) :
    (∃ u, overField m u ∧ polyEq p (polyMul F u d)) ↔ listPoly φ d ∣ listPoly φ p := by
  constructor
  · rintro ⟨u, hu, h⟩
    rw [hφ.listPoly_congr h, hφ.listPoly_polyMul hu hd]
    exact dvd_mul_left _ _
  · rintro ⟨U, h⟩
    obtain ⟨u, hu, rfl⟩ := hφ.exists_listPoly_eq U
    refine ⟨u, hu, (hφ.listPoly_eq_iff hp (hφ.overField_polyMul hu hd)).1 ?_⟩
    rw [hφ.listPoly_polyMul hu hd, h, mul_comm]

end Represents

end Sys2Proof.Machine
end

section
/-! SUPPORT. The long division of R135 and the algorithm of Euclid of R137 in a configured field. -/

namespace Sys2Proof.Machine

open Polynomial

/-! ### Adding a shifted row into the running remainder -/

theorem overField_addAt {m off : Nat} {w ys : List Nat} (hw : overField m w) (hys : overField m ys) :
    overField m (addAt off w ys) := by
  induction off, w, ys using addAt.induct with
  | case1 off ys => simpa [addAt] using hw
  | case2 w h => simpa [addAt] using hw
  | case3 x w y ys ih =>
    obtain ⟨hx, hw⟩ := overField_cons.1 hw
    obtain ⟨hy, hys⟩ := overField_cons.1 hys
    exact overField_cons.2 ⟨Nat.xor_lt_two_pow hx hy, ih hw hys⟩
  | case4 off x w ys ih =>
    obtain ⟨hx, hw⟩ := overField_cons.1 hw
    exact overField_cons.2 ⟨hx, ih hw hys⟩

/-- What the long division has after cancelling the degree `db + count` of the running remainder `w` by the digit `d`:
the new running remainder `w'`, of a lower degree (R135). -/
structure DivStep {K : Type} [CommRing K] (φ : Nat → K) (m : Nat) (b : List Nat) (db count : Nat) (w w' : List Nat)
    (d : Nat) : Prop where
  digit_lt : d < 2 ^ m
  overField : overField m w'
  degree : polyDeg w' < (db + count : Nat)
  poly : listPoly φ w' = listPoly φ w + X ^ count * (C (φ d) * listPoly φ b)

namespace Represents

variable {F : Field} {m : Nat} {K : Type} [CommRing K] {φ : Nat → K}

theorem listPoly_addAt (hφ : Represents F m φ) {off : Nat} {w ys : List Nat} (hw : overField m w)
    (hys : overField m ys) (hfits : off + ys.length ≤ w.length) :
    listPoly φ (addAt off w ys) = listPoly φ w + X ^ off * listPoly φ ys := by
  induction off, w, ys using addAt.induct with
  | case1 off ys =>
    obtain rfl : ys = [] := List.eq_nil_of_length_eq_zero (Nat.le_zero.1 ((Nat.le_add_left _ _).trans hfits))
    simp [addAt, listPoly]
  | case2 w h => simp [addAt, listPoly]
  | case3 x w y ys ih =>
    obtain ⟨hx, hw⟩ := overField_cons.1 hw
    obtain ⟨hy, hys⟩ := overField_cons.1 hys
    rw [List.length_cons, List.length_cons] at hfits
    rw [addAt, listPoly, listPoly, listPoly, ih hw hys (by omega), hφ.add hx hy, C_add]
    ring
  | case4 off x w ys ih =>
    obtain ⟨hx, hw⟩ := overField_cons.1 hw
    rw [List.length_cons] at hfits
    rw [addAt, listPoly, listPoly, ih hw hys (by omega), pow_succ]
    ring

/-- An entry is 0 where the polynomial's coefficient is. -/
theorem getD_eq_zero (hφ : Represents F m φ) {p : List Nat} (hp : overField m p) {i : Nat}
    (h : (listPoly φ p).coeff i = 0) : p.getD i 0 = 0 :=
  hφ.injective (hp.getD_lt i) (Nat.two_pow_pos m) (by rw [← hφ.coeff_listPoly, h, hφ.zero])

/-- A divisor may be cut above its degree. -/
theorem listPoly_take (hφ : Represents F m φ) {p : List Nat} {n : Nat} (h : polyDeg p < n) :
    listPoly φ (p.take n) = listPoly φ p :=
  hφ.listPoly_congr fun i => by
    simp only [List.getD_eq_getElem?_getD, List.getElem?_take]
    split
    · rfl
    · rw [← List.getD_eq_getElem?_getD, polyDeg_lt_iff.1 h i (by omega)]
      rfl

/-! ### The long division (R135) -/

section
variable {b w : List Nat} {db count : Nat}

/-- A nonzero entry at the degree to be cancelled is cancelled by the quotient digit. -/
theorem divStep_of_ne_zero (hφ : Represents F m φ) (hb : overField m b) (hdeg : polyDeg b = db) (hw : overField m w)
    (htop : polyDeg w < (db + (count + 1) : Nat)) (hc : w.getD (db + count) 0 ≠ 0) :
    DivStep φ m b db count w
      (addAt count w ((b.take (db + 1)).map (gfMul F (quotientDigit F (b.getD db 0) (w.getD (db + count) 0)))))
      (quotientDigit F (b.getD db 0) (w.getD (db + count) 0)) := by
  obtain ⟨hlead, hhigh⟩ := polyDeg_eq_iff.1 hdeg
  generalize hd : quotientDigit F (b.getD db 0) (w.getD (db + count) 0) = d
  have hdlt : d < 2 ^ m := hd ▸ hφ.digit_lt (hw.getD_lt _)
  have hcancel : φ d * φ (b.getD db 0) = φ (w.getD (db + count) 0) := by
    rw [← hφ.mul hdlt (hb.getD_lt db), ← hd, hφ.digit_mul (hb.getD_lt db) hlead (hw.getD_lt _) hc]
  have hcut : overField m (b.take (db + 1)) := fun x hx => hb x (List.mem_of_mem_take hx)
  have hrow := hφ.overField_map_gfMul hdlt hcut
  have hinside : db + count < w.length := by
    by_contra hout
    exact hc (List.getD_eq_default _ _ (not_lt.1 hout))
  have hfits : count + ((b.take (db + 1)).map (gfMul F d)).length ≤ w.length := by
    rw [List.length_map, List.length_take]
    omega
  have hpoly : listPoly φ (addAt count w ((b.take (db + 1)).map (gfMul F d))) =
      listPoly φ w + X ^ count * (C (φ d) * listPoly φ b) := by
    rw [hφ.listPoly_addAt hw hrow hfits, hφ.listPoly_map_gfMul hdlt hcut, hφ.listPoly_take (by omega)]
  have hover := overField_addAt (off := count) hw hrow
  refine ⟨hdlt, hover, polyDeg_lt_iff.2 fun i hi => hφ.getD_eq_zero hover ?_, hpoly⟩
  obtain ⟨j, rfl⟩ : ∃ j, i = db + j + count := ⟨i - (db + count), by omega⟩
  rw [hpoly, coeff_add, coeff_X_pow_mul, coeff_C_mul, hφ.coeff_listPoly, hφ.coeff_listPoly]
  cases j with
  | zero => rw [Nat.add_zero, hcancel, hφ.add_self]
  | succ j =>
    rw [hhigh (db + (j + 1)) (by omega), polyDeg_lt_iff.1 htop _ (by omega), hφ.zero, mul_zero, add_zero]

/-- An entry that is 0 already needs the digit 0. -/
theorem divStep_of_eq_zero (hφ : Represents F m φ) (hw : overField m w)
    (htop : polyDeg w < (db + (count + 1) : Nat)) (hc : w.getD (db + count) 0 = 0) : DivStep φ m b db count w w 0 := by
  refine ⟨Nat.two_pow_pos m, hw, polyDeg_lt_iff.2 fun i hi => ?_, ?_⟩
  · rcases Nat.eq_or_lt_of_le hi with rfl | hlt
    · exact hc
    · exact polyDeg_lt_iff.1 htop i hlt
  · rw [hφ.zero, C_0, zero_mul, mul_zero, add_zero]

/-- One pass of the loop finds one digit. -/
theorem exists_divStep (hφ : Represents F m φ) (hb : overField m b) (hdeg : polyDeg b = db) (hw : overField m w)
    (htop : polyDeg w < (db + (count + 1) : Nat)) (q : List Nat) :
    ∃ d w', divLoop F b db (b.getD db 0) (count + 1) w q = divLoop F b db (b.getD db 0) count w' (d :: q) ∧
      DivStep φ m b db count w w' d := by
  by_cases hc : w.getD (db + count) 0 = 0
  · exact ⟨0, w, by rw [divLoop]; exact if_pos hc, hφ.divStep_of_eq_zero hw htop hc⟩
  · exact ⟨_, _, by rw [divLoop]; exact if_neg hc, hφ.divStep_of_ne_zero hb hdeg hw htop hc⟩

/-- The loop keeps the sum of the divisor times the digits found so far, at their place, and the running remainder. -/
theorem divLoop_identity (hφ : Represents F m φ) (hb : overField m b) (hdeg : polyDeg b = db) (hw : overField m w)
    (htop : polyDeg w < (db + count : Nat)) {q q' w' : List Nat} (hq : overField m q)
    (h : divLoop F b db (b.getD db 0) count w q = (q', w')) :
    overField m q' ∧ overField m w' ∧ polyDeg w' < db ∧
      X ^ count * listPoly φ q * listPoly φ b + listPoly φ w = listPoly φ q' * listPoly φ b + listPoly φ w' := by
  induction count generalizing w q with
  | zero =>
    obtain ⟨rfl, rfl⟩ := Prod.mk.inj h
    exact ⟨hq, hw, htop, by rw [pow_zero, one_mul]⟩
  | succ count ih =>
    obtain ⟨d, w₁, hloop, hstep⟩ := hφ.exists_divStep hb hdeg hw htop q
    rw [hloop] at h
    obtain ⟨hq', hw', hlow, hkept⟩ := ih hstep.overField hstep.degree (overField_cons.2 ⟨hstep.digit_lt, hq⟩) h
    refine ⟨hq', hw', hlow, ?_⟩
    have hcancel := hφ.poly_add_self (X ^ count * (C (φ d) * listPoly φ b))
    rw [← hkept, hstep.poly, listPoly]
    linear_combination -hcancel

/-- A division in a configured field: a ~ q b + r and deg r < deg b (R135). -/
theorem listPoly_divideBy (hφ : Represents F m φ) {a : List Nat} (ha : overField m a) (hb : overField m b)
    (hdeg : polyDeg b = db) {q r : List Nat} (h : divideBy F a b db = (q, r)) :
    overField m q ∧ overField m r ∧ polyDeg r < db ∧
      listPoly φ a = listPoly φ q * listPoly φ b + listPoly φ r := by
  generalize hloop : divLoop F b db (b.getD db 0) (polyDeg a - db + 1).toNat a [] = p
  obtain ⟨q', w⟩ := p
  obtain ⟨hq, hw, hlow, hid⟩ :=
    hφ.divLoop_identity hb hdeg ha (by omega) (List.forall_mem_nil _) hloop
  rw [divideBy, hloop] at h
  obtain ⟨rfl, rfl⟩ := Prod.mk.inj h
  have hcut : polyEq ((List.range db).map fun i => w.getD i 0) w := fun i => by
    by_cases hi : i < db
    · rw [List.getD_eq_getElem _ _ (by simpa using hi), List.getElem_map, List.getElem_range]
    · rw [List.getD_eq_default _ _ (by simpa using hi), polyDeg_lt_iff.1 hlow i (not_lt.1 hi)]
  refine ⟨hq, List.forall_mem_map.2 fun i _ => hw.getD_lt i,
    polyDeg_lt_iff.2 fun i hi => (hcut i).trans (polyDeg_lt_iff.1 hlow i hi), ?_⟩
  rw [hφ.listPoly_congr hcut, ← hid, listPoly, mul_zero, zero_mul, zero_add]

end

/-! ### The algorithm of Euclid (R137) -/

/-- Every pass of the algorithm keeps the common divisors, and the last dividend alone has them all. -/
theorem dvd_gcdLoop_iff (hφ : Represents F m φ) {fuel : Nat} {a b : List Nat} (ha : overField m a) (hb : overField m b)
    (hfuel : polyDeg b < fuel) : overField m (gcdLoop F fuel a b) ∧
      ∀ D : K[X], D ∣ listPoly φ (gcdLoop F fuel a b) ↔ D ∣ listPoly φ a ∧ D ∣ listPoly φ b := by
  induction fuel generalizing a b with
  | zero =>
    rw [hφ.listPoly_of_polyDeg_neg hfuel]
    exact ⟨ha, fun D => (and_iff_left (dvd_zero D)).symm⟩
  | succ fuel ih =>
    by_cases hzero : polyDeg b < 0
    · rw [gcdLoop_of_zero_right F _ a hzero, hφ.listPoly_of_polyDeg_neg hzero]
      exact ⟨ha, fun D => (and_iff_left (dvd_zero D)).symm⟩
    · have hb0 := not_lt.1 hzero
      obtain ⟨-, hr, hlow, hdiv⟩ := hφ.listPoly_divideBy ha hb (Int.toNat_of_nonneg hb0).symm Prod.mk.eta.symm
      rw [gcdLoop_succ F fuel a hb0]
      obtain ⟨hover, hdvd⟩ := ih hb hr (by omega)
      refine ⟨hover, fun D => ?_⟩
      rw [hdvd, hdiv, and_comm]
      exact and_congr_left fun hD => (dvd_add_right (hD.mul_left _)).symm

/-- The gcd is over the field, and a polynomial divides it exactly when it divides both operands (R137). -/
theorem dvd_polyGcd_iff (hφ : Represents F m φ) {a b : List Nat} (ha : overField m a) (hb : overField m b) :
    overField m (polyGcd F a b) ∧
      ∀ D : K[X], D ∣ listPoly φ (polyGcd F a b) ↔ D ∣ listPoly φ a ∧ D ∣ listPoly φ b :=
  hφ.dvd_gcdLoop_iff ha hb (by omega)

end Represents

/-! ### The statements -/

/-- Settles O34: the invariant of the long division's loop. -/
theorem divisionIdentity : Obligations.DivisionIdentity := by
  unfold Obligations.DivisionIdentity
  simp only [inField_iff_overField]
  intro s a b q r hinv hs ha hb hdiv
  obtain ⟨K, _, φ, hφ⟩ := hinv.exists_represents hs
  obtain ⟨hb0, hqr⟩ := polyDiv_eq_ok.1 hdiv
  obtain ⟨hq, hr, hlow, hid⟩ := hφ.listPoly_divideBy ha hb (Int.toNat_of_nonneg hb0).symm hqr.symm
  have hprod := hφ.overField_polyMul hq hb
  refine ⟨(hφ.listPoly_eq_iff ha (overField_polyAdd hprod hr)).1 ?_, by omega, hq, hr⟩
  rw [hφ.listPoly_polyAdd hprod hr, hφ.listPoly_polyMul hq hb, hid]

/-- Settles O36: each pass of the algorithm of Euclid keeps the common divisors. -/
theorem gcdIsAGreatestCommonDivisor : Obligations.GcdIsAGreatestCommonDivisor := by
  unfold Obligations.GcdIsAGreatestCommonDivisor
  simp only [inField_iff_overField]
  intro s a b hinv hs ha hb hnonzero
  obtain ⟨K, _, φ, hφ⟩ := hinv.exists_represents hs
  obtain ⟨hg, hdvd⟩ := hφ.dvd_polyGcd_iff ha hb
  obtain ⟨hga, hgb⟩ := (hdvd _).1 dvd_rfl
  exact ⟨polyDeg_polyGcd_nonneg _ hnonzero, hg, (hφ.exists_polyMul_iff_dvd ha hg).2 hga,
    (hφ.exists_polyMul_iff_dvd hb hg).2 hgb, fun c hc hca hcb => (hφ.exists_polyMul_iff_dvd hg hc).2
      ((hdvd _).2 ⟨(hφ.exists_polyMul_iff_dvd ha hc).1 hca, (hφ.exists_polyMul_iff_dvd hb hc).1 hcb⟩)⟩

end Sys2Proof.Machine
end

section
/-! SUPPORT. The cyclotomic cosets: `cosets` lists the orbits of doubling modulo n of those candidates that are the
smallest of their orbit (R151). -/

namespace Sys2Proof.Machine

open Function

/-! ### Doubling modulo n -/

/-- The step from one member of a coset to the next (R151). -/
def doubleMod (n j : Nat) : Nat := 2 * j % n

theorem iterate_doubleMod {n i : Nat} (hi : i < n) (e : Nat) : (doubleMod n)^[e] i = i * 2 ^ e % n := by
  induction e with
  | zero => rw [pow_zero, mul_one, Nat.mod_eq_of_lt hi, iterate_zero, id]
  | succ e ih => rw [iterate_succ_apply', ih, doubleMod, Nat.mul_mod_mod, pow_succ, mul_left_comm, mul_comm 2]

theorem orbit_succ (n lead fuel j : Nat) : orbit n lead (fuel + 1) j =
    j :: if doubleMod n j = lead then [] else orbit n lead fuel (doubleMod n j) := rfl

/-- Once the orbit of a leader is generated up to its `a`-th member, what is left of its period is generated (R151). -/
theorem orbit_iterate {n i a k fuel : Nat} (hperiod : minimalPeriod (doubleMod n) i = a + k) (hk : 1 ≤ k)
    (hfuel : k ≤ fuel) :
    orbit n i fuel ((doubleMod n)^[a] i) = (List.range' a k).map fun e => (doubleMod n)^[e] i := by
  induction fuel generalizing a k with
  | zero => omega
  | succ fuel ih =>
    obtain ⟨k, rfl⟩ : ∃ k', k = k' + 1 := ⟨k - 1, by omega⟩
    rw [orbit_succ, List.range'_succ, List.map_cons, ← iterate_succ_apply' (doubleMod n) a i]
    by_cases hk0 : k = 0
    · have hback : (doubleMod n)^[a + 1] i = i := by
        rw [hk0, zero_add] at hperiod
        rw [← hperiod, iterate_minimalPeriod]
      rw [if_pos hback, hk0, List.range'_zero, List.map_nil]
    · have hopen : (doubleMod n)^[a + 1] i ≠ i := fun hback => by
        have := IsPeriodicPt.minimalPeriod_le (Nat.succ_pos a) hback
        omega
      rw [if_neg hopen, ih (a := a + 1) (k := k) (by omega) (by omega) (by omega)]

/-! ### The coset of an integer -/

theorem orbit_headD {n i : Nat} (hn : 1 ≤ n) : (orbit n i n i).headD 0 = i := by
  obtain ⟨k, rfl⟩ : ∃ k, n = k + 1 := ⟨n - 1, by omega⟩
  rw [orbit, List.headD_cons]

section
variable {m n i j l : Nat} (hm : 1 ≤ m) (hn : n = 2 ^ m - 1)

include hn

/-- Doubling m times multiplies by 2^m, which is 1 modulo n (R151). -/
theorem doubleMod_periodic (hi : i < n) : IsPeriodicPt (doubleMod n) m i := by
  have hpow : 2 ^ m = n + 1 := by omega
  rw [IsPeriodicPt, IsFixedPt, iterate_doubleMod hi, hpow, mul_add, mul_one, Nat.mul_add_mod_self_right,
    Nat.mod_eq_of_lt hi]

include hm

theorem minimalPeriod_doubleMod (hi : i < n) :
    1 ≤ minimalPeriod (doubleMod n) i ∧ minimalPeriod (doubleMod n) i ≤ m :=
  ⟨(doubleMod_periodic hn hi).minimalPeriod_pos hm, (doubleMod_periodic hn hi).minimalPeriod_le hm⟩

/-- A coset is one period of doubling, from its leader on (R151). -/
theorem orbit_eq_map_iterate (hi : i < n) :
    orbit n i n i = (List.range (minimalPeriod (doubleMod n) i)).map fun e => (doubleMod n)^[e] i := by
  obtain ⟨hpos, hle⟩ := minimalPeriod_doubleMod hm hn hi
  have hmn : m < 2 ^ m := Nat.lt_two_pow_self
  rw [List.range_eq_range']
  exact orbit_iterate (a := 0) (by rw [zero_add]) hpos (by omega)

/-- A coset is the whole orbit of its leader under doubling (R151). -/
theorem mem_orbit_iff (hi : i < n) : j ∈ orbit n i n i ↔ ∃ e, (doubleMod n)^[e] i = j := by
  rw [orbit_eq_map_iterate hm hn hi, List.mem_map]
  refine ⟨fun ⟨e, _, he⟩ => ⟨e, he⟩, fun ⟨e, he⟩ => ⟨e % minimalPeriod (doubleMod n) i, ?_, ?_⟩⟩
  · exact List.mem_range.2 (Nat.mod_lt _ (minimalPeriod_doubleMod hm hn hi).1)
  · rw [iterate_mod_minimalPeriod_eq, he]

theorem orbit_nodup (hi : i < n) : (orbit n i n i).Nodup := by
  rw [orbit_eq_map_iterate hm hn hi]
  exact List.nodup_range.map_on fun a ha b hb =>
    (iterate_eq_iterate_iff_of_lt_minimalPeriod (List.mem_range.1 ha) (List.mem_range.1 hb)).1

theorem self_mem_orbit (hi : i < n) : i ∈ orbit n i n i := (mem_orbit_iff hm hn hi).2 ⟨0, rfl⟩

theorem lt_of_mem_orbit (hi : i < n) (hj : j ∈ orbit n i n i) : j < n := by
  obtain ⟨e, rfl⟩ := (mem_orbit_iff hm hn hi).1 hj
  rw [iterate_doubleMod hi]
  exact Nat.mod_lt _ (by omega)

/-- Doubling on leads back: cosets that meet have the same members (R151). -/
theorem mem_orbit_symm (hi : i < n) (hj : j ∈ orbit n i n i) : i ∈ orbit n j n j := by
  have hjn := lt_of_mem_orbit hm hn hi hj
  obtain ⟨e, rfl⟩ := (mem_orbit_iff hm hn hi).1 hj
  refine (mem_orbit_iff hm hn hjn).2 ⟨m * e - e, ?_⟩
  rw [← iterate_add_apply, Nat.sub_add_cancel (Nat.le_mul_of_pos_left e hm)]
  exact (doubleMod_periodic hn hi).mul_const e

theorem mem_orbit_trans (hi : i < n) (hj : j ∈ orbit n i n i) (hl : l ∈ orbit n j n j) : l ∈ orbit n i n i := by
  have hjn := lt_of_mem_orbit hm hn hi hj
  obtain ⟨e, rfl⟩ := (mem_orbit_iff hm hn hi).1 hj
  obtain ⟨f, rfl⟩ := (mem_orbit_iff hm hn hjn).1 hl
  exact (mem_orbit_iff hm hn hi).2 ⟨f + e, iterate_add_apply _ _ _ _⟩

/-- Only the orbit of 0 contains 0 (R151). -/
theorem pos_of_mem_orbit (hi : i < n) (hpos : 1 ≤ i) (hj : j ∈ orbit n i n i) : 1 ≤ j := by
  by_contra hzero
  obtain rfl : j = 0 := by omega
  obtain ⟨e, he⟩ := (mem_orbit_iff hm hn (by omega)).1 (mem_orbit_symm hm hn hi hj)
  rw [iterate_doubleMod (by omega), zero_mul, Nat.zero_mod] at he
  omega

/-- What R151 says of one coset, in the words of the model's functions. -/
theorem orbit_eq_map_pow (hi : i < n) :
    orbit n i n i = (List.range (orbit n i n i).length).map fun e => i * 2 ^ e % n := by
  have h := orbit_eq_map_iterate hm hn hi
  have hlen : (orbit n i n i).length = minimalPeriod (doubleMod n) i := by rw [h, List.length_map, List.length_range]
  rw [hlen, h]
  exact List.map_congr_left fun e _ => iterate_doubleMod hi e

theorem orbit_length_bounds (hi : i < n) : 1 ≤ (orbit n i n i).length ∧ (orbit n i n i).length ≤ m := by
  rw [orbit_eq_map_iterate hm hn hi, List.length_map, List.length_range]
  exact minimalPeriod_doubleMod hm hn hi

end

/-! ### The list of cosets -/

/-- `i` is the smallest member of its orbit (R151). -/
def isLeader (n i : Nat) : Bool := (orbit n i n i).all (i ≤ ·)

theorem isLeader_iff {n i : Nat} : isLeader n i = true ↔ ∀ j ∈ orbit n i n i, i ≤ j := by simp [isLeader]

/-- `j` is in the orbit of a candidate before `i`, which makes it used when the loop of R151 comes to `i`. -/
def memberBefore (n i j : Nat) : Prop := ∃ l, 1 ≤ l ∧ l < i ∧ j ∈ orbit n l n l

theorem memberBefore_one {n j : Nat} : ¬ memberBefore n 1 j := fun ⟨l, hl, hlt, _⟩ => by omega

theorem memberBefore_succ {n i j : Nat} (hpos : 1 ≤ i) :
    memberBefore n (i + 1) j ↔ memberBefore n i j ∨ j ∈ orbit n i n i := by
  constructor
  · rintro ⟨l, hl, hlt, hj⟩
    rcases Nat.lt_succ_iff_lt_or_eq.1 hlt with h | rfl
    · exact .inl ⟨l, hl, h, hj⟩
    · exact .inr hj
  · rintro (⟨l, hl, hlt, hj⟩ | hj)
    · exact ⟨l, hl, by omega, hj⟩
    · exact ⟨i, hpos, by omega, hj⟩

/-- The leaders of the cosets of 1..2t (R151). -/
def leaders (n t : Nat) : List Nat := (List.range' 1 (2 * t)).filter (isLeader n)

theorem mem_leaders_iff {n i t : Nat} : i ∈ leaders n t ↔ (1 ≤ i ∧ i ≤ 2 * t) ∧ ∀ j ∈ orbit n i n i, i ≤ j := by
  rw [leaders, List.mem_filter, List.mem_range'_1, isLeader_iff, Nat.lt_one_add_iff]

theorem leaders_pairwise (n t : Nat) : (leaders n t).Pairwise (· < ·) := (List.pairwise_lt_range' _).filter _

theorem leaders_length_le (n t : Nat) : (leaders n t).length ≤ 2 * t :=
  (List.length_filter_le _ _).trans_eq List.length_range'

section
variable {m n i : Nat} (hm : 1 ≤ m) (hn : n = 2 ^ m - 1)

include hm hn

/-- The candidates that the loop of R151 skips are those with a smaller member in their orbit. -/
theorem not_isLeader_iff (hi : i < n) (hpos : 1 ≤ i) : ¬ isLeader n i = true ↔ memberBefore n i i := by
  rw [isLeader_iff]
  push Not
  constructor
  · rintro ⟨l, hl, hlt⟩
    exact ⟨l, pos_of_mem_orbit hm hn hi hpos hl, hlt, mem_orbit_symm hm hn hi hl⟩
  · rintro ⟨l, -, hlt, hl⟩
    exact ⟨l, mem_orbit_symm hm hn (by omega) hl, hlt⟩

/-- With the members of the candidates before `i` as `used`, the loop of R151 lists the orbits of the leaders from `i`
on. -/
theorem cosetsFrom_eq {k : Nat} {used : List Nat} (hused : ∀ j, j ∈ used ↔ memberBefore n i j) (hpos : 1 ≤ i)
    (hfits : i + k ≤ n) :
    cosetsFrom n (List.range' i k) used = ((List.range' i k).filter (isLeader n)).map fun l => orbit n l n l := by
  induction k generalizing i used with
  | zero => rfl
  | succ k ih =>
    have hskip : i ∈ used ↔ ¬ isLeader n i = true := by rw [hused, not_isLeader_iff hm hn (by omega) hpos]
    rw [List.range'_succ, cosetsFrom, List.filter_cons]
    by_cases hlead : isLeader n i = true
    · rw [if_neg (hskip.not_left.2 hlead), if_pos hlead, List.map_cons]
      refine congrArg _ (ih (fun j => ?_) (by omega) (by omega))
      rw [List.mem_append, hused, memberBefore_succ hpos]
    · rw [if_pos (hskip.2 hlead), if_neg hlead]
      refine ih (fun j => ?_) (by omega) (by omega)
      obtain ⟨l, hl, hlt, hmem⟩ := (not_isLeader_iff hm hn (by omega) hpos).1 hlead
      rw [hused, memberBefore_succ hpos]
      exact (or_iff_left_of_imp fun hj => ⟨l, hl, hlt, mem_orbit_trans hm hn (by omega) hmem hj⟩).symm

/-- The cosets are the orbits of the leaders among 1..2t (R151). -/
theorem cosets_eq {t : Nat} (ht : 2 * t < n) : cosets n t = (leaders n t).map fun l => orbit n l n l :=
  cosetsFrom_eq hm hn (fun _ => iff_of_false List.not_mem_nil memberBefore_one) le_rfl (by omega)

/-- Every orbit that meets 1..2t has a leader there (R151). -/
theorem exists_leader {t : Nat} (ht : 2 * t < n) (hi : 1 ≤ i ∧ i ≤ 2 * t) : ∃ l ∈ leaders n t, i ∈ orbit n l n l := by
  have hin : i < n := by omega
  induction i using Nat.strong_induction_on with
  | _ i ih =>
    by_cases hlead : isLeader n i = true
    · exact ⟨i, mem_leaders_iff.2 ⟨hi, isLeader_iff.1 hlead⟩, self_mem_orbit hm hn hin⟩
    · obtain ⟨j, hj, hlt, hmem⟩ := (not_isLeader_iff hm hn hin hi.1).1 hlead
      obtain ⟨l, hl, hjl⟩ := ih j hlt ⟨hj, by omega⟩ (by omega)
      obtain ⟨⟨-, hl2⟩, -⟩ := mem_leaders_iff.1 hl
      exact ⟨l, hl, mem_orbit_trans hm hn (by omega) hjl hmem⟩

/-- Two leaders of one orbit are each the smallest of it, so cosets are disjoint (R151). -/
theorem cosets_flatten_nodup {t : Nat} (ht : 2 * t < n) : (cosets n t).flatten.Nodup := by
  rw [cosets_eq hm hn ht, List.nodup_flatten, List.pairwise_map, List.forall_mem_map]
  refine ⟨fun l hl => ?_, (leaders_pairwise n t).imp_of_mem fun {a b} ha hb hab j hja hjb => ?_⟩
  · obtain ⟨⟨-, hl2⟩, -⟩ := mem_leaders_iff.1 hl
    exact orbit_nodup hm hn (by omega)
  · obtain ⟨⟨-, ha2⟩, -⟩ := mem_leaders_iff.1 ha
    obtain ⟨⟨-, hb2⟩, hmin⟩ := mem_leaders_iff.1 hb
    have hmeet := mem_orbit_trans hm hn (by omega) hjb (mem_orbit_symm hm hn (by omega) hja)
    exact absurd (hmin a hmeet) (not_le.2 hab)

end

/-- Settles O38: the cosets are the orbits of the leaders among 1..2t. -/
theorem cosetsAreTheOrbits : Obligations.CosetsAreTheOrbits := by
  unfold Obligations.CosetsAreTheOrbits
  intro m n t hm2 _ hn ht
  have hm : 1 ≤ m := by omega
  refine ⟨cosets_flatten_nodup hm hn ht, fun i h1 hi => ?_, ?_, ?_⟩
  · obtain ⟨l, hl, hmem⟩ := exists_leader hm hn ht ⟨h1, hi⟩
    rw [cosets_eq hm hn ht]
    exact List.mem_flatten_of_mem (List.mem_map_of_mem hl) hmem
  · have hheads : ((leaders n t).map fun l => (orbit n l n l).headD 0) = leaders n t :=
      (List.map_congr_left fun l _ => orbit_headD (by omega)).trans (List.map_id _)
    rw [cosets_eq hm hn ht, List.map_map]
    exact hheads.symm ▸ leaders_pairwise n t
  · rw [cosets_eq hm hn ht, List.forall_mem_map]
    intro l hl
    obtain ⟨⟨hl1, hl2⟩, hmin⟩ := mem_leaders_iff.1 hl
    have hln : l < n := by omega
    obtain ⟨hpos, hlen⟩ := orbit_length_bounds hm hn hln
    exact ⟨l, hl1, hl2, orbit_eq_map_pow hm hn hln, hpos, hlen,
      fun e => (mem_orbit_iff hm hn hln).2 ⟨e, iterate_doubleMod hln e⟩,
      fun j hj => ⟨hmin j hj, lt_of_mem_orbit hm hn hln hj⟩⟩

end Sys2Proof.Machine
end

section
/-! SUPPORT. `COSETS` and `MINPOLY`: the check of t, and the lengths of what the commands write (R150, R152, R154). -/

namespace Sys2Proof.Machine

/-! ### The check of t (R150) -/

section
variable {s : State} {x : Word}

theorem capability_of_legalT (h : legalT s x) : capability s x = .ok x.toNat :=
  capability_eq_ok.2 ⟨h, by rw [toInt_eq_toNat_of_nonneg (by omega), Int.toNat_natCast]⟩

theorem capability_of_not_legalT (h : ¬ legalT s x) : capability s x = .error .invalidParameters :=
  capability_eq_error.2 ⟨h, rfl⟩

/-- A legal t as the number that the functions take (R150). -/
theorem legalT.toNat_bounds (h : legalT s x) : 1 ≤ x.toNat ∧ 2 * x.toNat < s.n.toNat := by
  have hx := toInt_eq_toNat_of_nonneg (x := x) (by omega)
  omega

end

/-- The capacity of a vector register of this hardware (R22, R29). -/
theorem Inv.vlmax_eq {s : State} (hinv : Inv s) : s.vlmax.toNat = 512 := by
  obtain ⟨-, -, hvl, -⟩ := hinv.constants
  rw [hvl]
  rfl

/-! ### The sizes of the cosets (R152) -/

section
variable {m n t : Nat} (hm : 1 ≤ m) (hn : n = 2 ^ m - 1) (ht : 2 * t < n)

include hm hn ht

theorem mem_cosets_flatten_bounds {j : Nat} (hj : j ∈ (cosets n t).flatten) : 1 ≤ j ∧ j < n := by
  rw [cosets_eq hm hn ht, List.mem_flatten] at hj
  obtain ⟨c, hc, hjc⟩ := hj
  obtain ⟨l, hl, rfl⟩ := List.mem_map.1 hc
  obtain ⟨⟨hl1, hl2⟩, -⟩ := mem_leaders_iff.1 hl
  exact ⟨pos_of_mem_orbit hm hn (by omega) hl1 hjc, lt_of_mem_orbit hm hn (by omega) hjc⟩

/-- The members of the cosets are different numbers of 1..n-1 (R152). -/
theorem cosets_flatten_length_le : (cosets n t).flatten.length ≤ n - 1 := by
  have hsub : (cosets n t).flatten ⊆ List.range' 1 (n - 1) := fun j hj => by
    have := mem_cosets_flatten_bounds hm hn ht hj
    exact List.mem_range'_1.2 (by omega)
  have hle := ((cosets_flatten_nodup hm hn ht).subperm hsub).length_le
  rwa [List.length_range'] at hle

theorem cosets_length_le : (cosets n t).length ≤ 2 * t := by
  rw [cosets_eq hm hn ht, List.length_map]
  exact leaders_length_le n t

end

/-! ### `COSETS` -/

/-- With two different destinations `COSETS` is a legal command, and its rule goes on from the check of t (R152). -/
theorem exec_cosets_of_holds {vd ve : VReg} {sa : SReg} {s : State} {x : Word} (hne : vd ≠ ve)
    (hs : 1 ≤ s.state.toNat) (hx : holdsS s sa x) : exec (.cosets vd ve sa) s =
    finish s (capability s x >>= fun t => putV s vd (cosets s.n.toNat t).flatten >>= fun u =>
      putV u ve ((cosets s.n.toNat t).map List.length)) := by
  have hwf : WellFormed s.feat (.cosets vd ve sa) = true := by
    simp [WellFormed, Instr.unitPresent, Instr.featBit, Instr.distinctDests, Instr.scalarDests, Instr.vectorDests, hne]
  have hlegal : requireLegal s (.cosets vd ve sa) = .ok () := ensure_eq_ok.2 hwf
  show finish s (requireLegal s (.cosets vd ve sa) >>= fun _ => _) = _
  rw [hlegal]
  exact congrArg (finish s) (requireState_readS_bind hs hx _)

/-- Two sequences that fit are written, and the command ends (R13, R305). -/
theorem finish_putV_putV {s : State} {vd ve : VReg} {p q : List Nat} (hp : p.length ≤ s.vlmax.toNat)
    (hq : q.length ≤ s.vlmax.toNat) : finish s (putV s vd p >>= fun u => putV u ve q) =
      .next (complete ((s.setVector vd (toBytes p)).setVector ve (toBytes q))) := by
  have hfirst : putV s vd p = .ok (s.setVector vd (toBytes p)) := putV_eq_ok.2 ⟨hp, rfl⟩
  exact finish_eq_complete (bind_eq_ok.2 ⟨_, hfirst, putV_eq_ok.2 ⟨hq, rfl⟩⟩)

/-- Settles O39: both lists fit a register, because the members are different numbers below n. -/
theorem cosetsWritesMembersAndSizes : Obligations.CosetsWritesMembersAndSizes := by
  unfold Obligations.CosetsWritesMembersAndSizes
  intro vd ve sa s x hinv hx hs hne
  obtain ⟨hacc, hn, -⟩ := hinv.field_built hs
  have hvlmax := hinv.vlmax_eq
  have hn256 := s.n.isLt
  rw [exec_cosets_of_holds hne hs hx]
  refine ⟨fun ht => ?_, fun ht => ?_⟩
  · obtain ⟨-, ht2⟩ := ht.toNat_bounds
    have hmembers := cosets_flatten_length_le hacc.pos hn ht2
    have hsizes := cosets_length_le hacc.pos hn ht2
    rw [capability_of_legalT ht]
    exact finish_putV_putV (by omega) (by rw [List.length_map]; omega)
  · rw [capability_of_not_legalT ht]
    rfl

/-! ### `MINPOLY` -/

theorem polyMul_linear_length (F : Field) {p : List Nat} (hp : p ≠ []) (a b : Nat) :
    (polyMul F p [a, b]).length = p.length + 1 := by
  rw [polyMul_length, if_neg (by simp [hp]), List.length_cons, List.length_singleton]
  omega

/-- The product of the factors x + α^i on top of a polynomial `p` (R153). -/
def timesFactors (F : Field) (p : List Nat) (c : List Nat) : List Nat :=
  c.foldl (fun p (i : Nat) => polyMul F p [alphaPow F i, 1]) p

theorem timesFactors_cons (F : Field) (p : List Nat) (i : Nat) (c : List Nat) :
    timesFactors F p (i :: c) = timesFactors F (polyMul F p [alphaPow F i, 1]) c := rfl

/-- The function reads its list as a list of integers, entry by entry (R153). -/
theorem minPoly_eq_timesFactors (F : Field) (c : List Nat) : minPoly F c = timesFactors F [1] c := by
  have hcast : (c >>= fun i => pure (i : Int)) = c.map Nat.cast := List.map_eq_flatMap.symm
  rw [minPoly, hcast, List.foldl_map]
  rfl

theorem timesFactors_length (F : Field) {p : List Nat} (hp : p ≠ []) (c : List Nat) :
    (timesFactors F p c).length = p.length + c.length := by
  induction c generalizing p with
  | nil => rfl
  | cons i c ih =>
    have hlen := polyMul_linear_length F hp (alphaPow F i) 1
    have hne : polyMul F p [alphaPow F i, 1] ≠ [] := List.ne_nil_of_length_pos (by omega)
    rw [timesFactors_cons, ih hne, hlen, List.length_cons]
    omega

/-- A minimal polynomial is one entry longer than its list of exponents (R153). -/
theorem minPoly_length (F : Field) (c : List Nat) : (minPoly F c).length = c.length + 1 := by
  rw [minPoly_eq_timesFactors, timesFactors_length F (List.cons_ne_nil 1 []), List.length_singleton, add_comm]

/-- `MINPOLY` checks its exponents and writes their minimal polynomial (R154). -/
theorem exec_minpoly_of_holds {vd va : VReg} {s : State} {xs : List Byte} (hs : 1 ≤ s.state.toNat)
    (hx : holdsV s va xs) : exec (.minpoly vd va) s =
    finish s (ensure (∀ i ∈ xs, i.toNat < s.n.toNat) .indexOutOfRange >>= fun _ =>
      putV s vd (minPoly s.field (elems xs))) := by
  show finish s (requireState s 1 >>= fun _ => readV s va >>= _) = _
  rw [requireState, ensure_eq_ok.2 hs, readV_eq_ok.2 hx]
  rfl

/-- Settles O40: the length of the product decides whether it fits. -/
theorem minpolyWritesTheProduct : Obligations.MinpolyWritesTheProduct := by
  unfold Obligations.MinpolyWritesTheProduct
  intro vd va s xs hx hs
  have hlen : (minPoly s.field (elems xs)).length = xs.length + 1 := by rw [minPoly_length, elems_length]
  have hwrites : (∀ i ∈ xs, i.toNat < s.n.toNat) →
      exec (.minpoly vd va) s = finish s (putV s vd (minPoly s.field (elems xs))) := fun hall => by
    rw [exec_minpoly_of_holds hs hx, ensure_eq_ok.2 hall]
    rfl
  have hfold : minPoly s.field (elems xs) =
      xs.foldl (fun p i => polyMul s.field p [alphaPow s.field i.toNat, 1]) [1] := by
    rw [minPoly_eq_timesFactors, timesFactors, elems, List.foldl_map]
  refine ⟨fun hall hfits => ⟨_, hlen, hfold, ?_⟩, fun hbad => ?_, fun hall hlong => ?_⟩
  · rw [hwrites hall, finish_putV_of_le (by omega)]
  · rw [exec_minpoly_of_holds hs hx, ensure_eq_error.2 ⟨hbad, rfl⟩]
    rfl
  · rw [hwrites hall, finish_putV_of_lt (by omega)]

end Sys2Proof.Machine
end

section
/-! SUPPORT. The ring of a configured field is an integral domain, and in it the values of `polyEval`, and the minimal
polynomials as products of the factors x - α^i (R153, R181). -/

namespace Sys2Proof.Machine

open Polynomial

/-! ### The powers of α -/

theorem accepted.one_lt {m prim : Nat} (h : accepted m prim) : 1 < 2 ^ m :=
  Nat.one_lt_two_pow (Nat.one_le_iff_ne_zero.1 h.pos)

/-- The powers of α below n are different (R102). -/
theorem alphaPow_inj {m prim : Nat} (h : accepted m prim) {i j : Nat} (hi : i < 2 ^ m - 1) (hj : j < 2 ^ m - 1)
    (heq : alphaPow (builtField m prim) i = alphaPow (builtField m prim) j) : i = j := by
  have hlog : (i : Int) % (2 ^ m - 1 : Nat) = j % (2 ^ m - 1 : Nat) :=
    (logOf_alphaPow h i).symm.trans ((congrArg (logOf (builtField m prim)) heq).trans (logOf_alphaPow h j))
  rw [← Int.natCast_mod, ← Int.natCast_mod, Nat.mod_eq_of_lt hi, Nat.mod_eq_of_lt hj] at hlog
  exact Int.natCast_inj.1 hlog

theorem gfSum_lt {m : Nat} {xs : List Nat} (h : ∀ x ∈ xs, x < 2 ^ m) : gfSum xs < 2 ^ m := by
  induction xs with
  | nil => exact Nat.two_pow_pos m
  | cons x xs ih =>
    obtain ⟨hx, hxs⟩ := List.forall_mem_cons.1 h
    rw [gfSum_cons]
    exact Nat.xor_lt_two_pow hx (ih hxs)

/-- The polynomial with the powers of α at the given exponents as its roots (R153). -/
noncomputable def rootPoly {K : Type} [CommRing K] (F : Field) (φ : Nat → K) (c : List Nat) : K[X] :=
  (c.map fun i : Nat => X - C (φ (alphaPow F i))).prod

section
variable {F : Field} {K : Type} [CommRing K] {φ : Nat → K}

theorem rootPoly_nil : rootPoly F φ [] = 1 := rfl

theorem rootPoly_cons (i : Nat) (c : List Nat) :
    rootPoly F φ (i :: c) = (X - C (φ (alphaPow F i))) * rootPoly F φ c := List.prod_cons

theorem rootPoly_append (c d : List Nat) : rootPoly F φ (c ++ d) = rootPoly F φ c * rootPoly F φ d := by
  rw [rootPoly, List.map_append, List.prod_append]
  rfl

theorem rootPoly_monic (c : List Nat) : (rootPoly F φ c).Monic := by
  induction c with
  | nil => exact monic_one
  | cons i c ih =>
    rw [rootPoly_cons]
    exact (monic_X_sub_C _).mul ih

theorem rootPoly_degree [Nontrivial K] (c : List Nat) : (rootPoly F φ c).degree = c.length := by
  induction c with
  | nil => exact degree_one
  | cons i c ih =>
    rw [rootPoly_cons, (rootPoly_monic c).degree_mul, degree_X_sub_C, ih, List.length_cons, add_comm]
    rfl

theorem eval_rootPoly {i : Nat} {c : List Nat} (hi : i ∈ c) : (rootPoly F φ c).eval (φ (alphaPow F i)) = 0 :=
  dvd_iff_isRoot.1 (List.dvd_prod (List.mem_map_of_mem hi))

theorem linear_isCoprime_rootPoly {a : K} {d : List Nat} (h : ∀ j ∈ d, IsUnit (a - φ (alphaPow F j))) :
    IsCoprime (X - C a) (rootPoly F φ d) := by
  induction d with
  | nil => exact isCoprime_one_right
  | cons j d ih =>
    obtain ⟨hj, hd⟩ := List.forall_mem_cons.1 h
    rw [rootPoly_cons]
    exact (isCoprime_X_sub_C_of_isUnit_sub hj).mul_right (ih hd)

/-- Lists of roots that differ pairwise by units have coprime polynomials. -/
theorem rootPoly_isCoprime {c d : List Nat}
    (h : ∀ i ∈ c, ∀ j ∈ d, IsUnit (φ (alphaPow F i) - φ (alphaPow F j))) :
    IsCoprime (rootPoly F φ c) (rootPoly F φ d) := by
  induction c with
  | nil => exact isCoprime_one_left
  | cons i c ih =>
    obtain ⟨hi, hc⟩ := List.forall_mem_cons.1 h
    rw [rootPoly_cons]
    exact (linear_isCoprime_rootPoly hi).mul_left (ih hc)

end

/-! ### The integral domain -/

section
variable {m prim : Nat} {K : Type} [CommRing K] {φ : Nat → K}

/-- `1` is the unit of the ring (R107). -/
theorem Represents.one (hφ : Represents (builtField m prim) m φ) (h : accepted m prim) : φ 1 = 1 := by
  obtain ⟨a, ha, hone⟩ := hφ.surjective 1
  calc φ 1 = φ 1 * φ a := by rw [hone, mul_one]
    _ = φ a := by rw [← hφ.mul h.one_lt ha, one_gfMul h ha]
    _ = 1 := hone

theorem Represents.nontrivial (hφ : Represents (builtField m prim) m φ) (h : accepted m prim) : Nontrivial K := by
  refine ⟨0, 1, fun heq => ?_⟩
  rw [← hφ.zero, ← hφ.one h] at heq
  exact absurd (hφ.injective (Nat.two_pow_pos m) h.one_lt heq) zero_ne_one

/-- Every nonzero element has an inverse: the digit of a division of 1 by it (R111, R135). -/
theorem Represents.isUnit (hφ : Represents (builtField m prim) m φ) (h : accepted m prim) {x : K} (hx : x ≠ 0) :
    IsUnit x := by
  obtain ⟨a, ha, rfl⟩ := hφ.surjective x
  have ha0 : a ≠ 0 := fun h0 => hx (h0 ▸ hφ.zero)
  have hinv := hφ.digit_mul ha ha0 h.one_lt one_ne_zero
  refine isUnit_iff_exists_inv'.2 ⟨φ (quotientDigit (builtField m prim) a 1), ?_⟩
  rw [← hφ.mul (hφ.digit_lt h.one_lt) ha, hinv, hφ.one h]

theorem Represents.isDomain (hφ : Represents (builtField m prim) m φ) (h : accepted m prim) : IsDomain K := by
  have _ := hφ.nontrivial h
  have _ : NoZeroDivisors K :=
    ⟨fun {x y} hxy => or_iff_not_imp_left.2 fun hx => (hφ.isUnit h hx).mul_right_eq_zero.1 hxy⟩
  exact NoZeroDivisors.to_isDomain K

/-- Powers of α with different exponents below n differ by a unit. -/
theorem Represents.isUnit_alphaPow_sub (hφ : Represents (builtField m prim) m φ) (h : accepted m prim) {i j : Nat}
    (hi : i < 2 ^ m - 1) (hj : j < 2 ^ m - 1) (hne : i ≠ j) :
    IsUnit (φ (alphaPow (builtField m prim) i) - φ (alphaPow (builtField m prim) j)) :=
  hφ.isUnit h (sub_ne_zero.2 fun heq =>
    hne (alphaPow_inj h hi hj (hφ.injective (alphaPow_lt h i) (alphaPow_lt h j) heq)))

/-! ### The value of a polynomial (R181) -/

theorem Represents.alphaPow_mul_natCast (hφ : Represents (builtField m prim) m φ) (h : accepted m prim) (e : Int)
    (j : Nat) : φ (alphaPow (builtField m prim) (e * j)) = φ (alphaPow (builtField m prim) e) ^ j := by
  induction j with
  | zero => rw [Nat.cast_zero, mul_zero, alphaPow_zero h, hφ.one h, pow_zero]
  | succ j ih =>
    rw [Nat.cast_succ, mul_add, mul_one, ← gfMul_alphaPow h, hφ.mul (alphaPow_lt h _) (alphaPow_lt h _), ih, pow_succ]

/-- `gfPow` with a natural exponent is the power, 0^0 being 1 (R109). -/
theorem Represents.gfPow_natCast (hφ : Represents (builtField m prim) m φ) (h : accepted m prim) {x : Nat}
    (hx : x < 2 ^ m) (j : Nat) :
    gfPow (builtField m prim) x j < 2 ^ m ∧ φ (gfPow (builtField m prim) x j) = φ x ^ j := by
  by_cases hx0 : x = 0
  · subst hx0
    rw [gfPow_zero_left, hφ.zero]
    cases j with
    | zero => exact ⟨h.one_lt, (hφ.one h).trans (pow_zero 0).symm⟩
    | succ j =>
      rw [if_neg (by omega), zero_pow (Nat.succ_ne_zero j)]
      exact ⟨Nat.two_pow_pos m, hφ.zero⟩
  · obtain ⟨i, rfl⟩ := exists_alphaPow_eq h hx hx0
    rw [gfPow_alphaPow h]
    exact ⟨alphaPow_lt h _, hφ.alphaPow_mul_natCast h i j⟩

/-- The value of the entries from index `k` on, which `polyEval` gives for `k = 0`. -/
theorem Represents.gfSum_terms (hφ : Represents (builtField m prim) m φ) (h : accepted m prim) {x : Nat}
    (hx : x < 2 ^ m) {p : List Nat} (hp : overField m p) (k : Nat) :
    gfSum ((p.zipIdx k).map fun cj => gfMul (builtField m prim) cj.1 (gfPow (builtField m prim) x cj.2)) < 2 ^ m ∧
    φ (gfSum ((p.zipIdx k).map fun cj => gfMul (builtField m prim) cj.1 (gfPow (builtField m prim) x cj.2))) =
      φ x ^ k * (listPoly φ p).eval (φ x) := by
  induction p generalizing k with
  | nil =>
    rw [listPoly, eval_zero, mul_zero]
    exact ⟨Nat.two_pow_pos m, hφ.zero⟩
  | cons c cs ih =>
    obtain ⟨hc, hcs⟩ := overField_cons.1 hp
    obtain ⟨hpow, hval⟩ := hφ.gfPow_natCast h hx k
    obtain ⟨hlt, hrest⟩ := ih hcs (k + 1)
    have hterm := hφ.mul_lt hc hpow
    rw [List.zipIdx_cons, List.map_cons, gfSum_cons]
    refine ⟨Nat.xor_lt_two_pow hterm hlt, ?_⟩
    rw [hφ.add hterm hlt, hφ.mul hc hpow, hval, hrest, listPoly, eval_add, eval_mul, eval_C, eval_X]
    ring

/-- `polyEval` is the value of the polynomial (R181). -/
theorem Represents.polyEval_eq (hφ : Represents (builtField m prim) m φ) (h : accepted m prim) {x : Nat}
    (hx : x < 2 ^ m) {p : List Nat} (hp : overField m p) :
    polyEval (builtField m prim) p x < 2 ^ m ∧ φ (polyEval (builtField m prim) p x) = (listPoly φ p).eval (φ x) := by
  have hsum := hφ.gfSum_terms h hx hp 0
  rwa [pow_zero, one_mul] at hsum

/-- `polyEval` gives 0 exactly at the roots. -/
theorem Represents.polyEval_eq_zero_iff (hφ : Represents (builtField m prim) m φ) (h : accepted m prim) {x : Nat}
    (hx : x < 2 ^ m) {p : List Nat} (hp : overField m p) :
    polyEval (builtField m prim) p x = 0 ↔ (listPoly φ p).eval (φ x) = 0 := by
  obtain ⟨hlt, hval⟩ := hφ.polyEval_eq h hx hp
  rw [← hval]
  exact ⟨fun h0 => by rw [h0, hφ.zero],
    fun h0 => hφ.injective hlt (Nat.two_pow_pos m) (h0.trans hφ.zero.symm)⟩

/-! ### Minimal polynomials (R153) -/

/-- The factor x + α^i is x - α^i, since addition is its own inverse (R105, R153). -/
theorem Represents.listPoly_linear (hφ : Represents (builtField m prim) m φ) (h : accepted m prim) (a : Nat) :
    listPoly φ [a, 1] = X - C (φ a) := by
  have hself := hφ.poly_add_self (C (φ a))
  rw [listPoly, listPoly, listPoly, hφ.one h, C_1, mul_zero, add_zero, mul_one]
  linear_combination hself

theorem Represents.listPoly_timesFactors (hφ : Represents (builtField m prim) m φ) (h : accepted m prim)
    {p : List Nat} (hp : overField m p) (c : List Nat) :
    overField m (timesFactors (builtField m prim) p c) ∧
      listPoly φ (timesFactors (builtField m prim) p c) = listPoly φ p * rootPoly (builtField m prim) φ c := by
  induction c generalizing p with
  | nil => exact ⟨hp, (mul_one _).symm⟩
  | cons i c ih =>
    have hlin : overField m [alphaPow (builtField m prim) i, 1] := overField_cons.2 ⟨alphaPow_lt h i,
      overField_cons.2 ⟨h.one_lt, List.forall_mem_nil _⟩⟩
    rw [timesFactors_cons, rootPoly_cons, ← mul_assoc, ← hφ.listPoly_linear h, ← hφ.listPoly_polyMul hp hlin]
    exact ih (hφ.overField_polyMul hp hlin)

/-- A minimal polynomial is the product of the factors x - α^i (R153). -/
theorem Represents.listPoly_minPoly (hφ : Represents (builtField m prim) m φ) (h : accepted m prim) (c : List Nat) :
    overField m (minPoly (builtField m prim) c) ∧
      listPoly φ (minPoly (builtField m prim) c) = rootPoly (builtField m prim) φ c := by
  have hone : overField m [1] :=
    overField_cons.2 ⟨h.one_lt, List.forall_mem_nil _⟩
  have hprod := hφ.listPoly_timesFactors h hone c
  rwa [← minPoly_eq_timesFactors, listPoly, listPoly, hφ.one h, C_1, mul_zero, add_zero, one_mul] at hprod

end

/-- Settles O41: the polynomial is the product of the factors x - α^i, and `polyEval` is its value. -/
theorem minpolyVanishesOnItsRoots : Obligations.MinpolyVanishesOnItsRoots := by
  unfold Obligations.MinpolyVanishesOnItsRoots
  intro s c hinv hs _ i hi
  obtain ⟨hacc, hfield⟩ := hinv.field_eq hs
  let _ := elementRing hacc
  have hφ := represents_toElement hacc
  obtain ⟨hover, hpoly⟩ := hφ.listPoly_minPoly hacc c
  rw [hfield, hφ.polyEval_eq_zero_iff hacc (alphaPow_lt hacc i) hover, hpoly]
  exact eval_rootPoly hi

end Sys2Proof.Machine
end

section
/-! SUPPORT. The generator polynomial: different cosets have coprime minimal polynomials, so every least common multiple
of the fold is a product, up to a unit, and its degree is the number of members so far (R156). -/

namespace Sys2Proof.Machine

open Polynomial

section
variable {m prim : Nat} {K : Type} [CommRing K] {φ : Nat → K}

/-- The degree of a sequence is that of its polynomial (R131). -/
theorem Represents.polyDeg_eq_of_degree {F : Field} (hφ : Represents F m φ) {p : List Nat} (hp : overField m p) {d : Nat}
    (h : (listPoly φ p).degree = d) : polyDeg p = d := by
  refine polyDeg_eq_iff.2 ⟨fun h0 => ?_, fun i hi => hφ.getD_eq_zero hp (coeff_eq_zero_of_degree_lt ?_)⟩
  · refine coeff_ne_zero_of_eq_degree h ?_
    rw [hφ.coeff_listPoly, h0, hφ.zero]
  · rw [h]
    exact Nat.cast_lt.2 hi

/-- `g` has the powers of α at the exponents `roots` as its roots, each once, and no entry above its degree (R156). -/
structure Generates (m prim : Nat) {K : Type} [CommRing K] (φ : Nat → K) (g roots : List Nat) : Prop where
  overField : overField m g
  length_eq : g.length = roots.length + 1
  associated : Associated (listPoly φ g) (rootPoly (builtField m prim) φ roots)

theorem Represents.degree_of_associated (hφ : Represents (builtField m prim) m φ) (h : accepted m prim) {P : K[X]}
    {roots : List Nat} (hP : Associated P (rootPoly (builtField m prim) φ roots)) : P.degree = roots.length := by
  have _ := hφ.isDomain h
  rw [degree_eq_degree_of_associated hP, rootPoly_degree]

theorem Generates.polyDeg_eq {g roots : List Nat} (hg : Generates m prim φ g roots)
    (hφ : Represents (builtField m prim) m φ) (h : accepted m prim) : polyDeg g = roots.length :=
  hφ.polyDeg_eq_of_degree hg.overField (hφ.degree_of_associated h hg.associated)

/-- The seed of the fold (R156). -/
theorem Represents.generates_one (hφ : Represents (builtField m prim) m φ) (h : accepted m prim) :
    Generates m prim φ [1] [] := by
  refine ⟨overField_cons.2 ⟨h.one_lt, List.forall_mem_nil _⟩, rfl, ?_⟩
  rw [listPoly, listPoly, hφ.one h, C_1, mul_zero, add_zero, rootPoly_nil]

/-- The gcd of sequences with coprime polynomials is a unit, so it has degree 0 (R137). -/
theorem Represents.polyGcd_of_isCoprime (hφ : Represents (builtField m prim) m φ) (h : accepted m prim)
    {a b : List Nat} (ha : overField m a) (hb : overField m b)
    (hcop : IsCoprime (listPoly φ a) (listPoly φ b)) :
    overField m (polyGcd (builtField m prim) a b) ∧
      IsUnit (listPoly φ (polyGcd (builtField m prim) a b)) ∧ polyDeg (polyGcd (builtField m prim) a b) = 0 := by
  have _ := hφ.isDomain h
  obtain ⟨hover, hdvd⟩ := hφ.dvd_polyGcd_iff ha hb
  obtain ⟨hda, hdb⟩ := (hdvd _).1 dvd_rfl
  have hunit := hcop.isUnit_of_dvd' hda hdb
  exact ⟨hover, hunit, hφ.polyDeg_eq_of_degree (d := 0) hover (degree_eq_zero_of_isUnit hunit)⟩

/-- The least common multiple of sequences with coprime polynomials is their product up to a unit, with no entry above
the product's degree (R139). -/
theorem Represents.polyLcm_of_isCoprime (hφ : Represents (builtField m prim) m φ) (h : accepted m prim) {vlmax : Nat}
    {a b : List Nat} (ha : overField m a) (hb : overField m b) (hcop : IsCoprime (listPoly φ a) (listPoly φ b))
    (hfits : (polyMul (builtField m prim) a b).length ≤ vlmax) :
    ∃ q, polyLcm (builtField m prim) vlmax a b = .ok q ∧ overField m q ∧
      q.length = (polyDeg (polyMul (builtField m prim) a b) + 1).toNat ∧
      Associated (listPoly φ q) (listPoly φ a * listPoly φ b) := by
  obtain ⟨hgcd, hunit, hdeg⟩ := hφ.polyGcd_of_isCoprime h ha hb hcop
  obtain ⟨q, r, hdiv, hlen, -⟩ :=
    exists_polyDiv_of_nonzero (builtField m prim) (polyMul (builtField m prim) a b) hdeg.ge
  obtain ⟨hgcd0, hqr⟩ := polyDiv_eq_ok.1 hdiv
  obtain ⟨hq, -, hlow, hid⟩ :=
    hφ.listPoly_divideBy (hφ.overField_polyMul ha hb) hgcd (Int.toNat_of_nonneg hgcd0).symm hqr.symm
  rw [hφ.listPoly_polyMul ha hb, hφ.listPoly_of_polyDeg_neg (p := r) (by omega), add_zero] at hid
  refine ⟨q, polyLcm_of_polyDiv hfits hdiv, hq, by rw [hlen, hdeg, sub_zero], ?_⟩
  rw [hid]
  exact associated_mul_unit_right _ _ hunit

/-- A minimal polynomial of other exponents is coprime to what has been generated so far (R156). -/
theorem Generates.isCoprime_minPoly {g roots c : List Nat} (hg : Generates m prim φ g roots)
    (hφ : Represents (builtField m prim) m φ) (h : accepted m prim) (hbound : ∀ i ∈ roots ++ c, i < 2 ^ m - 1)
    (hnodup : (roots ++ c).Nodup) :
    IsCoprime (listPoly φ g) (listPoly φ (minPoly (builtField m prim) c)) := by
  obtain ⟨-, -, hdisjoint⟩ := List.nodup_append.1 hnodup
  obtain ⟨-, hmin⟩ := hφ.listPoly_minPoly h c
  rw [hmin]
  refine IsCoprime.of_isCoprime_of_dvd_left (rootPoly_isCoprime fun i hi j hj => ?_) hg.associated.dvd
  exact hφ.isUnit_alphaPow_sub h (hbound i (List.mem_append_left _ hi)) (hbound j (List.mem_append_right _ hj))
    (hdisjoint i hi j hj)

/-- One pass of the fold adds the members of its coset to the roots (R156). -/
theorem Generates.exists_polyLcm {g roots c : List Nat} (hg : Generates m prim φ g roots)
    (hφ : Represents (builtField m prim) m φ) (h : accepted m prim) {vlmax : Nat}
    (hbound : ∀ i ∈ roots ++ c, i < 2 ^ m - 1) (hnodup : (roots ++ c).Nodup)
    (hfits : (roots ++ c).length + 1 ≤ vlmax) :
    ∃ g', polyLcm (builtField m prim) vlmax g (minPoly (builtField m prim) c) = .ok g' ∧
      Generates m prim φ g' (roots ++ c) := by
  obtain ⟨hmin, hminPoly⟩ := hφ.listPoly_minPoly h c
  have hminLen := minPoly_length (builtField m prim) c
  have hgLen := hg.length_eq
  have hproductLen :
      (polyMul (builtField m prim) g (minPoly (builtField m prim) c)).length = (roots ++ c).length + 1 := by
    rw [polyMul_length, if_neg (by simp [← List.length_eq_zero_iff, hgLen, hminLen]), List.length_append]
    omega
  have hproduct : Associated (listPoly φ g * listPoly φ (minPoly (builtField m prim) c))
      (rootPoly (builtField m prim) φ (roots ++ c)) := by
    rw [hminPoly, rootPoly_append]
    exact hg.associated.mul_right _
  have hproductDeg := hφ.polyDeg_eq_of_degree (hφ.overField_polyMul hg.overField hmin)
    (by rw [hφ.listPoly_polyMul hg.overField hmin, hφ.degree_of_associated h hproduct])
  obtain ⟨g', hlcm, hover, hlen, hassoc⟩ := hφ.polyLcm_of_isCoprime h hg.overField hmin
    (hg.isCoprime_minPoly hφ h hbound hnodup) (hproductLen.trans_le hfits)
  exact ⟨g', hlcm, hover, by omega, hassoc.trans hproduct⟩

theorem lcmFold_of_polyLcm {F : Field} {vlmax : Nat} {c g g' : List Nat} {cs : List (List Nat)}
    (h : polyLcm F vlmax g (minPoly F c) = .ok g') : lcmFold F vlmax (c :: cs) g = lcmFold F vlmax cs g' := by
  rw [lcmFold, h]

/-- The fold over disjoint cosets answers, and keeps the members so far as the roots (R156). -/
theorem Generates.exists_lcmFold {g roots : List Nat} {cs : List (List Nat)} (hg : Generates m prim φ g roots)
    (hφ : Represents (builtField m prim) m φ) (h : accepted m prim) {vlmax : Nat}
    (hbound : ∀ i ∈ roots ++ cs.flatten, i < 2 ^ m - 1) (hnodup : (roots ++ cs.flatten).Nodup)
    (hfits : (roots ++ cs.flatten).length + 1 ≤ vlmax) :
    ∃ g', lcmFold (builtField m prim) vlmax cs g = .ok g' ∧
      Generates m prim φ g' (roots ++ cs.flatten) := by
  induction cs generalizing g roots with
  | nil =>
    rw [List.flatten_nil, List.append_nil]
    exact ⟨g, rfl, hg⟩
  | cons c cs ih =>
    rw [List.flatten_cons, ← List.append_assoc] at hbound hnodup hfits ⊢
    obtain ⟨g', hlcm, hg'⟩ := hg.exists_polyLcm hφ h (vlmax := vlmax)
      (fun i hi => hbound i (List.mem_append_left _ hi)) hnodup.of_append_left
      (by rw [List.length_append] at hfits; omega)
    rw [lcmFold_of_polyLcm hlcm]
    exact ih hg' hbound hnodup hfits

/-- A legal t has a generator, whose roots are the powers of α at the members of the cosets (R156). -/
theorem Represents.exists_generates (hφ : Represents (builtField m prim) m φ) (h : accepted m prim) {t : Nat}
    (ht : 2 * t < 2 ^ m - 1) : ∃ g, genPoly (builtField m prim) 512 t = .ok g ∧
      Generates m prim φ g (cosets (2 ^ m - 1) t).flatten := by
  have hlen := cosets_flatten_length_le h.pos rfl ht
  obtain ⟨hpow, -⟩ := h.fits
  have hfold := (hφ.generates_one h).exists_lcmFold hφ h (cs := cosets (2 ^ m - 1) t) (vlmax := 512)
  rw [List.nil_append] at hfold
  exact hfold (fun i hi => (mem_cosets_flatten_bounds h.pos rfl ht hi).2) (cosets_flatten_nodup h.pos rfl ht)
    (by omega)

end

/-- What the registers need to know of a generator: it is a sequence of bytes with no entry above its degree, which is
between 1 and n - 1 (R35, R156). -/
structure GeneratorShape (n : Nat) (g : List Nat) : Prop where
  bytes : ∀ x ∈ g, x < 256
  length_eq : (g.length : Int) = polyDeg g + 1
  degree_pos : 1 ≤ polyDeg g
  degree_lt : polyDeg g < n

/-- A legal t has a generator; its degree is the number of members of the cosets, which have 1 among them and lie in
1..n-1 (R156). -/
theorem Inv.exists_generator {s : State} (hinv : Inv s) (hs : 1 ≤ s.state.toNat) {t : Nat} (ht1 : 1 ≤ t)
    (ht : 2 * t < s.n.toNat) : ∃ g, genPoly s.field 512 t = .ok g ∧ GeneratorShape s.n.toNat g := by
  obtain ⟨hacc, hn, -⟩ := hinv.field_built hs
  obtain ⟨-, hfield⟩ := hinv.field_eq hs
  obtain ⟨hpow, -⟩ := hacc.fits
  let _ := elementRing hacc
  have hφ := represents_toElement hacc
  rw [hfield, hn]
  rw [hn] at ht
  obtain ⟨g, hg, hgen⟩ := hφ.exists_generates hacc ht
  have hdeg := hgen.polyDeg_eq hφ hacc
  have hlen := hgen.length_eq
  have hle := cosets_flatten_length_le hacc.pos rfl ht
  obtain ⟨l, hl, hmem⟩ := exists_leader hacc.pos rfl ht (i := 1) ⟨le_rfl, by omega⟩
  have hone : 1 ∈ (cosets (2 ^ s.m.toNat - 1) t).flatten := by
    rw [cosets_eq hacc.pos rfl ht]
    exact List.mem_flatten_of_mem (List.mem_map_of_mem hl) hmem
  have hpos := List.length_pos_of_mem hone
  exact ⟨g, hg, fun x hx => (hgen.overField x hx).trans_le hpow, by omega, by omega, by omega⟩

end Sys2Proof.Machine
end

section
/-! SUPPORT. `GENPOLY`, `BCHINIT` and `LDGEN`: the generator as it is written, installed and read back (R157 to R159). -/

namespace Sys2Proof.Machine

/-! ### The generator memory (R53) -/

/-- A sequence written into a memory from index `k` on is read back there, and the rest stays. -/
theorem read_foldl_write (seq : List Nat) (μ : Memory 8) (k i : Nat) :
    Memory.read ((seq.zipIdx k).foldl (fun μ p => Memory.write μ p.2 (BitVec.ofNat 8 p.1)) μ) i =
      if k ≤ i ∧ i < k + seq.length then some (BitVec.ofNat 8 (seq.getD (i - k) 0)) else Memory.read μ i := by
  induction seq generalizing μ k with
  | nil => rw [if_neg (by rw [List.length_nil]; omega)]; rfl
  | cons x xs ih =>
    rw [List.zipIdx_cons, List.foldl_cons, ih, List.length_cons]
    by_cases hik : i = k
    · subst hik
      rw [if_neg (by omega), if_pos (by omega), Nat.sub_self, read_write_self, List.getD_cons_zero]
    · rw [read_write_ne _ _ hik]
      refine if_ctx_congr (by omega) (fun hin => ?_) fun _ => rfl
      obtain ⟨j, rfl⟩ : ∃ j, i = k + (j + 1) := ⟨i - k - 1, by omega⟩
      rw [Nat.add_sub_cancel_left, List.getD_cons_succ, show k + (j + 1) - (k + 1) = j by omega]

theorem read_ofSeq {seq : List Nat} {i : Nat} (hi : i < seq.length) :
    Memory.read (Memory.ofSeq seq) i = some (BitVec.ofNat 8 (seq.getD i 0)) := by
  rw [Memory.ofSeq, read_foldl_write, if_pos (by omega), Nat.sub_zero]

/-- A generator of n - k + 1 bytes is read back whole (R35, R53). -/
theorem genSeq_of_ofSeq {s : State} {g : List Nat} (hgen : s.gen = Memory.ofSeq g) (hbytes : ∀ x ∈ g, x < 256)
    (hlen : g.length = s.n.toNat - s.k.toNat + 1) : genSeq s = g := by
  rw [genSeq, ← hlen]
  refine List.ext_getElem (by rw [List.length_map, List.length_range]) fun i _ hi => ?_
  rw [List.getElem_map, List.getElem_range, genEntry, hgen, read_ofSeq hi, Option.getD_some,
    List.getD_eq_getElem _ _ hi, BitVec.toNat_ofNat, Nat.mod_eq_of_lt (hbytes _ (List.getElem_mem hi))]

/-- `K` holds n - deg g (R36, R158). -/
theorem GeneratorShape.toNat_k {n : BitVec 8} {g : List Nat} (h : GeneratorShape n.toNat g) :
    ((BitVec.ofInt 8 (n.toNat - polyDeg g)).toNat : Int) = n.toNat - polyDeg g := by
  have hn := n.isLt
  have hpos := h.degree_pos
  have hlt := h.degree_lt
  rw [BitVec.toNat_ofInt, Int.toNat_of_nonneg (by omega)]
  omega

/-- In a configured codec `GEN` holds the generator of `T`, and its degree is n - k (R35, R36). -/
theorem Inv.genSeq_eq {s : State} (hinv : Inv s) (hs : s.state = 2) :
    ∃ g, genPoly s.field 512 s.t.toNat = .ok g ∧ GeneratorShape s.n.toNat g ∧ genSeq s = g ∧ genShape s := by
  obtain ⟨ht1, ht2, g, hg, hgen, hk⟩ := hinv.codec_built hs
  obtain ⟨g', hg', hshape⟩ := hinv.exists_generator (by rw [hs]; decide) ht1 ht2
  obtain rfl : g = g' := Except.ok.inj (hg.symm.trans hg')
  have hkn := hshape.toNat_k
  rw [← hk] at hkn
  have hlen := hshape.length_eq
  have hpos := hshape.degree_pos
  have hlt := hshape.degree_lt
  have hseq := genSeq_of_ofSeq hgen hshape.bytes (by omega)
  refine ⟨g, hg, hshape, hseq, ?_⟩
  rw [genShape, hseq]
  omega

/-! ### The commands -/

section
variable {s : State} {sa : SReg} {x : Word} {vd : VReg}

/-- `GENPOLY` with a written operand goes on from the check of t (R157). -/
theorem exec_genpoly_of_holds (hs : 1 ≤ s.state.toNat) (hx : holdsS s sa x) : exec (.genpoly vd sa) s =
    finish s (capability s x >>= fun t => genPoly s.field s.vlmax.toNat t >>= fun g => putV s vd g) :=
  congrArg (finish s) (requireState_readS_bind hs hx _)

/-- `BCHINIT` with a written operand ends the old codec and goes on from the check of t (R158). -/
theorem exec_bchinit_of_holds (hs : 1 ≤ s.state.toNat) (hx : holdsS s sa x) : exec (.bchinit sa) s =
    finish s.dropCodec (capability s x >>= fun t => genPoly s.field s.vlmax.toNat t >>= fun g =>
      .ok (s.dropCodec.installCodec t (s.n.toNat - polyDeg g) g)) :=
  exec_bchinit_of_ok (bind_eq_ok.2 ⟨(), ensure_eq_ok.2 hs, readS_eq_ok.2 hx⟩)

/-- `LDGEN` with a codec writes the generator memory (R159). -/
theorem exec_ldgen_of_ready (hs : s.state = 2) : exec (.ldgen vd) s = finish s (putV s vd (genSeq s)) := by
  show finish s (requireState s 2 >>= fun _ => _) = _
  rw [requireState, ensure_eq_ok.2 (show 2 ≤ s.state.toNat by rw [hs]; decide)]
  rfl

end

/-! ### The statements -/

/-- Settles O42: the fold of least common multiples finds the generator, and nothing but the destination changes. -/
theorem genpolyWritesAGenerator : Obligations.GenpolyWritesAGenerator := by
  unfold Obligations.GenpolyWritesAGenerator
  intro vd sa s x hinv hx hs
  rw [exec_genpoly_of_holds hs hx]
  refine ⟨fun ht => ?_, fun ht => ?_⟩
  · obtain ⟨ht1, ht2⟩ := ht.toNat_bounds
    obtain ⟨g, hg, hshape⟩ := hinv.exists_generator hs ht1 ht2
    have hlen := hshape.length_eq
    have hlt := hshape.degree_lt
    have hn := s.n.isLt
    refine ⟨g, hg, hlen, hshape.degree_pos, hlt, ?_⟩
    rw [capability_of_legalT ht, hinv.vlmax_eq]
    show finish s (genPoly s.field 512 x.toNat >>= _) = _
    rw [hg]
    exact finish_putV_of_le (by rw [hinv.vlmax_eq]; omega)
  · rw [capability_of_not_legalT ht]
    rfl

/-- Settles O44: the invariant says which generator the memory holds, and it is read back whole. -/
theorem ldgenWritesTheGenerator : Obligations.LdgenWritesTheGenerator := by
  unfold Obligations.LdgenWritesTheGenerator
  intro vd s hinv hs
  obtain ⟨g, hg, hgshape, hseq, hshape⟩ := hinv.genSeq_eq hs
  have hlen := hgshape.length_eq
  have hlt := hgshape.degree_lt
  have hn := s.n.isLt
  refine ⟨hshape, g, hg, hseq, ?_⟩
  rw [exec_ldgen_of_ready hs, hseq]
  exact finish_putV_of_le (by rw [hinv.vlmax_eq]; omega)

/-- Settles O43: the codec that is installed keeps the invariant, which gives its shape. -/
theorem bchinitInstallsTheCodec : Obligations.BchinitInstallsTheCodec := by
  unfold Obligations.BchinitInstallsTheCodec
  intro sa s x hinv hx hs
  rw [exec_bchinit_of_holds hs hx, hinv.vlmax_eq]
  refine ⟨fun ht => ?_, fun ht => ?_⟩
  · obtain ⟨ht1, ht2⟩ := ht.toNat_bounds
    obtain ⟨g, hg, -⟩ := hinv.exists_generator hs ht1 ht2
    have hinv' : Inv ((Effect.codec x.toNat g).run s) :=
      inv_complete (inv_installCodec hinv hs ⟨ht1, ht2⟩ (by rw [hinv.vlmax_eq, hg]))
    obtain ⟨-, -, -, -, hshape⟩ := hinv'.genSeq_eq rfl
    refine ⟨g, (Effect.codec x.toNat g).run s, hg, rfl, ?_, hshape⟩
    rw [capability_of_legalT ht]
    exact finish_eq_complete (bind_eq_ok.2 ⟨_, rfl, bind_eq_ok.2 ⟨g, hg, rfl⟩⟩)
  · rw [capability_of_not_legalT ht]
    rfl

end Sys2Proof.Machine
end

section
/-! SUPPORT. `ENC`: the bit-vector operands, and the codeword that the encoder makes of a message (R170 to R172). -/

namespace Sys2Proof.Machine

/-! ### Bit-vector operands (R170) -/

section
variable {len : Nat} {e : Err} {xs : List Byte}

/-- The length is checked before the entries (R170). -/
theorem bitOperand_of_length_ne (h : xs.length ≠ len) : bitOperand len e xs = .error e := if_neg h

theorem bitOperand_of_not_allBits (hlen : xs.length = len) (h : ¬ allBits xs) :
    bitOperand len e xs = .error .elementOutOfRange := by
  rw [bitOperand, if_pos hlen]
  exact entriesAtMost_eq_error.2 ⟨h, rfl⟩

theorem bitOperand_of_allBits (hlen : xs.length = len) (h : allBits xs) : bitOperand len e xs = .ok (elems xs) :=
  bitOperand_eq_ok.2 ⟨hlen, h, rfl⟩

end

/-! ### The encoder (R171) -/

/-- The message above n - k zeros, the coefficients of msg(x) x^(n-k) (R171). -/
def shiftedMessage (s : State) (msg : List Nat) : List Nat := List.replicate (s.n.toNat - s.k.toNat) 0 ++ msg

/-- The parity of a message, and the message above it (R171). -/
def codeword (s : State) (msg : List Nat) : List Nat := remainderOf s (shiftedMessage s msg) ++ msg

@[simp] theorem remainderOf_length (s : State) (w : List Nat) :
    (remainderOf s w).length = s.n.toNat - s.k.toNat := divideBy_remainder_length _ _ _ _

/-- A division by the generator of a codec answers, and its remainder is `remainderOf` (R135, R35). -/
theorem genShape.exists_polyDiv {s : State} (h : genShape s) (w : List Nat) :
    ∃ q, polyDiv s.field w (genSeq s) = .ok (q, remainderOf s w) := by
  obtain ⟨hdeg, -, hk⟩ := h
  refine ⟨(divideBy s.field w (genSeq s) (s.n.toNat - s.k.toNat)).1, polyDiv_eq_ok.2 ⟨by omega, ?_⟩⟩
  rw [show (polyDeg (genSeq s)).toNat = s.n.toNat - s.k.toNat by omega]
  rfl

/-- The encoder answers with the codeword of the message (R171). -/
theorem bchEncode_eq_codeword {s : State} (h : genShape s) (msg : List Nat) :
    bchEncode s.codec msg = .ok (codeword s msg) := by
  obtain ⟨q, hdiv⟩ := h.exists_polyDiv (shiftedMessage s msg)
  exact bind_eq_ok.2 ⟨_, hdiv, rfl⟩

theorem codeword_length {s : State} (h : genShape s) {msg : List Nat} (hmsg : msg.length = s.k.toNat) :
    (codeword s msg).length = s.n.toNat := by
  obtain ⟨-, -, hk⟩ := h
  rw [codeword, List.length_append, remainderOf_length]
  omega

/-- The decoders take the message back from above the parity (R192). -/
theorem msgOf_codeword (s : State) (msg : List Nat) : msgOf s.codec (codeword s msg) = msg :=
  List.drop_left' (remainderOf_length s _)

/-- The codeword of the entries of a register, as the entries of a register. -/
theorem toBytes_codeword_elems (s : State) (xs : List Byte) :
    toBytes (codeword s (elems xs)) = toBytes (remainderOf s (shiftedMessage s (elems xs))) ++ xs := by
  rw [toBytes, codeword, List.map_append, map_ofNat_elems]
  rfl

/-! ### The command (R172) -/

/-- `ENC` with a written operand goes on from the check of the message (R172). -/
theorem exec_enc_of_holds {vd va : VReg} {s : State} {xs : List Byte} (hs : s.state = 2) (hx : holdsV s va xs) :
    exec (.enc vd va) s = finish s (bitOperand s.k.toNat .wrongMessageLength xs >>= fun msg =>
      bchEncode s.codec msg >>= putV s vd) := by
  show finish s (requireState s 2 >>= fun _ => readV s va >>= _) = _
  rw [requireState, ensure_eq_ok.2 (show 2 ≤ s.state.toNat by rw [hs]; decide), readV_eq_ok.2 hx]
  rfl

/-- Settles O45: the division of the shifted message answers, and the codeword has n entries. -/
theorem encWritesParityThenMessage : Obligations.EncWritesParityThenMessage := by
  unfold Obligations.EncWritesParityThenMessage
  intro vd va s xs hinv hshape hx hs
  rw [exec_enc_of_holds hs hx]
  refine ⟨fun hlen => ?_, fun hlen hbad => ?_, fun hlen hbits => ⟨_, rfl, remainderOf_length s _, ?_⟩⟩
  · rw [bitOperand_of_length_ne hlen]
    rfl
  · rw [bitOperand_of_not_allBits hlen hbad]
    rfl
  · have hn := s.n.isLt
    have hcw := codeword_length hshape (msg := elems xs) (by rw [elems_length, hlen])
    rw [bitOperand_of_allBits hlen hbits]
    show finish s (bchEncode s.codec (elems xs) >>= putV s vd) = _
    rw [bchEncode_eq_codeword hshape]
    show finish s (putV s vd (codeword s (elems xs))) = _
    rw [finish_putV_of_le (by rw [hinv.vlmax_eq]; omega), toBytes_codeword_elems, shiftedMessage]

end Sys2Proof.Machine
end

section
/-! SUPPORT. The codewords of a configured codec are multiples of the generator: their syndromes and their remainder are
zero, so every decoder answers the word itself; and the remainder is linear (R171, R173). -/

namespace Sys2Proof.Machine

open Polynomial

/-! ### Sequences of one length -/

theorem polyAdd_append {p p' : List Nat} (h : p.length = p'.length) (q q' : List Nat) :
    polyAdd (p ++ q) (p' ++ q') = polyAdd p p' ++ polyAdd q q' := by
  induction p, p' using polyAdd.induct with
  | case1 ys =>
    obtain rfl := List.eq_nil_of_length_eq_zero h.symm
    rfl
  | case2 xs hne => exact absurd (List.eq_nil_of_length_eq_zero h) hne
  | case3 x xs y ys ih => exact congrArg (gfAdd x y :: ·) (ih (Nat.succ.inj h))

theorem polyAdd_replicate_zero (p : List Nat) : polyAdd p (List.replicate p.length 0) = p := by
  induction p with
  | nil => rfl
  | cons x xs ih => rw [List.length_cons, List.replicate_succ, polyAdd, ih, gfAdd_zero_right]

/-- Sequences of one length are equal when they are equal as polynomials (R12). -/
theorem polyEq.eq_of_length {p q : List Nat} (h : polyEq p q) (hlen : p.length = q.length) : p = q :=
  List.ext_getElem hlen fun i hp hq => by
    rw [← List.getD_eq_getElem p 0 hp, ← List.getD_eq_getElem q 0 hq, h i]

theorem overField_append {m : Nat} {p q : List Nat} (hp : overField m p) (hq : overField m q) :
    overField m (p ++ q) := List.forall_mem_append.2 ⟨hp, hq⟩

theorem overField_replicate_zero (m k : Nat) : overField m (List.replicate k 0) := fun x hx => by
  rw [List.eq_of_mem_replicate hx]
  exact Nat.two_pow_pos m

/-! ### The shifted message and the codeword (R171) -/

theorem overField_shiftedMessage {m : Nat} (s : State) {msg : List Nat} (h : overField m msg) :
    overField m (shiftedMessage s msg) := overField_append (overField_replicate_zero m _) h

theorem shiftedMessage_polyAdd (s : State) (msg msg' : List Nat) :
    shiftedMessage s (polyAdd msg msg') = polyAdd (shiftedMessage s msg) (shiftedMessage s msg') := by
  have hzeros := polyAdd_replicate_zero (List.replicate (s.n.toNat - s.k.toNat) 0)
  rw [List.length_replicate] at hzeros
  rw [shiftedMessage, shiftedMessage, shiftedMessage, polyAdd_append rfl, hzeros]

/-- The codeword is the sum of the parity and the shifted message (R171). -/
theorem codeword_eq_polyAdd (s : State) (msg : List Nat) :
    codeword s msg = polyAdd (remainderOf s (shiftedMessage s msg)) (shiftedMessage s msg) := by
  have hparity := polyAdd_append (p := remainderOf s (shiftedMessage s msg))
    (p' := List.replicate (s.n.toNat - s.k.toNat) 0) (by simp) [] msg
  have hzeros := polyAdd_replicate_zero (remainderOf s (shiftedMessage s msg))
  rw [remainderOf_length] at hzeros
  rw [hzeros, List.append_nil] at hparity
  exact hparity.symm

/-! ### The remainder of a division (R135) -/

section
variable {F : Field} {m : Nat} {K : Type} [CommRing K] {φ : Nat → K} {p : List Nat} {d : Nat}

theorem Represents.degree_lt_of_polyDeg_lt (hφ : Represents F m φ) (h : polyDeg p < d) : (listPoly φ p).degree < d :=
  (degree_lt_iff_coeff_zero _ d).2 fun i hi => by rw [hφ.coeff_listPoly, polyDeg_lt_iff.1 h i hi, hφ.zero]

theorem Represents.le_degree_of_polyDeg_eq (hφ : Represents F m φ) (hp : overField m p) (h : polyDeg p = d) :
    d ≤ (listPoly φ p).degree := by
  obtain ⟨htop, -⟩ := polyDeg_eq_iff.1 h
  exact le_degree_of_ne_zero fun h0 => htop (hφ.getD_eq_zero hp h0)

end

/-- The remainder is the one sequence of its length that makes the dividend a multiple of the divisor when it is added. -/
theorem Represents.remainder_eq_iff {m prim : Nat} {K : Type} [CommRing K] {φ : Nat → K}
    (hφ : Represents (builtField m prim) m φ) (h : accepted m prim) {a b r : List Nat} {db : Nat}
    (ha : overField m a) (hb : overField m b) (hdeg : polyDeg b = db) (hr : overField m r) (hlen : r.length = db) :
    (divideBy (builtField m prim) a b db).2 = r ↔ listPoly φ b ∣ listPoly φ a + listPoly φ r := by
  have _ := hφ.isDomain h
  obtain ⟨-, hrem, hlow, hid⟩ := hφ.listPoly_divideBy ha hb hdeg Prod.mk.eta.symm
  have hremLen := divideBy_remainder_length (builtField m prim) a b db
  generalize (divideBy (builtField m prim) a b db).1 = q at hid
  generalize (divideBy (builtField m prim) a b db).2 = r' at hrem hlow hid hremLen ⊢
  have hself := hφ.poly_add_self (listPoly φ r)
  constructor
  · rintro rfl
    exact ⟨listPoly φ q, by linear_combination hid + hself⟩
  · intro hdvd
    have hsum : listPoly φ b ∣ listPoly φ r' + listPoly φ r := by
      rw [hid, add_assoc] at hdvd
      exact (dvd_add_right (dvd_mul_left _ _)).1 hdvd
    have hrLow : polyDeg r < db := by rw [← hlen]; exact (polyDeg_bounds r).2
    have hsumLow : (listPoly φ r' + listPoly φ r).degree < db := (degree_add_le _ _).trans_lt
      (max_lt (hφ.degree_lt_of_polyDeg_lt hlow) (hφ.degree_lt_of_polyDeg_lt hrLow))
    have hzero := eq_zero_of_dvd_of_degree_lt hsum (hsumLow.trans_le (hφ.le_degree_of_polyDeg_eq hb hdeg))
    have heq : listPoly φ r' = listPoly φ r := by linear_combination hzero - hself
    exact ((hφ.listPoly_eq_iff hrem hr).1 heq).eq_of_length (hremLen.trans hlen.symm)

/-! ### Decoding a word without errors (R193, R212, R216) -/

/-- The function reads its positions as integers (R182). -/
theorem syndromes_eq_map (F : Field) (t : Nat) (r : List Nat) :
    syndromes F t r = (List.range (2 * t)).map fun p : Nat => polyEval F r (alphaPow F (p + 1 : Nat)) := by
  have hcast : ((List.range (2 * t)) >>= fun p => pure (p : Int)) = (List.range (2 * t)).map Nat.cast :=
    List.map_eq_flatMap.symm
  rw [syndromes, hcast, List.map_map]
  rfl

theorem bchDecode_of_syndromes_zero {c : Codec} {r : List Nat} (h : ∀ x ∈ syndromes c.field c.t r, x = 0) :
    bchDecode c r = ⟨msgOf c r, r, 0, drClean⟩ := if_pos h

theorem bchDecodeBM_of_syndromes_zero {c : Codec} {r : List Nat} (h : ∀ x ∈ syndromes c.field c.t r, x = 0) :
    bchDecodeBM c r = ⟨msgOf c r, r, 0, drClean⟩ := if_pos h

theorem remSyndrome_eq_remainderOf {s : State} (h : genShape s) (w : List Nat) :
    remSyndrome s.codec w = .ok (remainderOf s w) := by
  obtain ⟨q, hdiv⟩ := h.exists_polyDiv w
  exact bind_eq_ok.2 ⟨_, hdiv, rfl⟩

theorem bchDecodeMG_of_remainderOf_zero {s : State} (h : genShape s) {w : List Nat}
    (hw : ∀ x ∈ remainderOf s w, x = 0) : bchDecodeMG s.codec w = .ok ⟨msgOf s.codec w, w, 0, drClean⟩ := by
  have hweight : (remainderOf s w).count 1 = 0 := List.count_eq_zero.2 fun h1 => one_ne_zero (hw 1 h1)
  rw [bchDecodeMG, meggittLoop, remSyndrome_eq_remainderOf h]
  exact if_pos ⟨rfl, hweight⟩

/-! ### The generator of a configured codec -/

/-- `φ` reads the field of a configured codec as a ring, in which `GEN` has the powers of α at the members of the cosets
as its roots, and the degree n - k (R35, R156). -/
structure RepresentsCodec (s : State) {K : Type} [CommRing K] (φ : Nat → K) : Prop where
  accepted : accepted s.m.toNat s.prim.toNat
  n_eq : s.n.toNat = 2 ^ s.m.toNat - 1
  field_eq : s.field = builtField s.m.toNat s.prim.toNat
  legal_t : 2 * s.t.toNat < s.n.toNat
  represents : Represents (builtField s.m.toNat s.prim.toNat) s.m.toNat φ
  generates : Generates s.m.toNat s.prim.toNat φ (genSeq s) (cosets s.n.toNat s.t.toNat).flatten
  degree : polyDeg (genSeq s) = (s.n.toNat - s.k.toNat : Nat)

theorem Inv.exists_representsCodec {s : State} (hinv : Inv s) (hs : s.state = 2) :
    ∃ (K : Type) (_ : CommRing K) (φ : Nat → K), RepresentsCodec s φ := by
  have hready : 1 ≤ s.state.toNat := by rw [hs]; decide
  obtain ⟨hacc, hn, -⟩ := hinv.field_built hready
  obtain ⟨-, hfield⟩ := hinv.field_eq hready
  obtain ⟨-, ht, -⟩ := hinv.codec_built hs
  obtain ⟨g, hg, -, hseq, hdeg, -, hk⟩ := hinv.genSeq_eq hs
  let _ := elementRing hacc
  have hφ := represents_toElement hacc
  obtain ⟨g', hg', hgen⟩ := hφ.exists_generates hacc (hn ▸ ht)
  rw [← hfield] at hg'
  obtain rfl : g = g' := Except.ok.inj (hg.symm.trans hg')
  exact ⟨_, elementRing hacc, _, hacc, hn, hfield, ht, hφ, by rwa [hseq, hn], by omega⟩

namespace RepresentsCodec

variable {s : State} {K : Type} [CommRing K] {φ : Nat → K}

theorem overField_of_bits (hc : RepresentsCodec s φ) {p : List Nat} (h : ∀ b ∈ p, b ≤ 1) : overField s.m.toNat p :=
  fun b hb => (h b hb).trans_lt hc.accepted.one_lt

theorem remainderOf_eq_iff (hc : RepresentsCodec s φ) {w r : List Nat} (hw : overField s.m.toNat w)
    (hr : overField s.m.toNat r) (hlen : r.length = s.n.toNat - s.k.toNat) :
    remainderOf s w = r ↔ listPoly φ (genSeq s) ∣ listPoly φ w + listPoly φ r := by
  rw [remainderOf, hc.field_eq]
  exact hc.represents.remainder_eq_iff hc.accepted hw hc.generates.overField hc.degree hr hlen

theorem overField_remainderOf (hc : RepresentsCodec s φ) {w : List Nat} (hw : overField s.m.toNat w) :
    overField s.m.toNat (remainderOf s w) := by
  obtain ⟨-, hr, -⟩ := hc.represents.listPoly_divideBy hw hc.generates.overField hc.degree Prod.mk.eta.symm
  rwa [remainderOf, hc.field_eq]

/-- The remainder added to its dividend makes a multiple of the generator. -/
theorem dvd_add_remainderOf (hc : RepresentsCodec s φ) {w : List Nat} (hw : overField s.m.toNat w) :
    listPoly φ (genSeq s) ∣ listPoly φ w + listPoly φ (remainderOf s w) :=
  (hc.remainderOf_eq_iff hw (hc.overField_remainderOf hw) (remainderOf_length s w)).1 rfl

/-- The remainder is linear (R173). -/
theorem remainderOf_polyAdd (hc : RepresentsCodec s φ) {w w' : List Nat} (hw : overField s.m.toNat w)
    (hw' : overField s.m.toNat w') :
    remainderOf s (polyAdd w w') = polyAdd (remainderOf s w) (remainderOf s w') := by
  have hr := hc.overField_remainderOf hw
  have hr' := hc.overField_remainderOf hw'
  have hlen : (polyAdd (remainderOf s w) (remainderOf s w')).length = s.n.toNat - s.k.toNat := by
    rw [polyAdd_length, remainderOf_length, remainderOf_length, max_self]
  rw [hc.remainderOf_eq_iff (overField_polyAdd hw hw') (overField_polyAdd hr hr') hlen,
    hc.represents.listPoly_polyAdd hw hw', hc.represents.listPoly_polyAdd hr hr', add_add_add_comm]
  exact dvd_add (hc.dvd_add_remainderOf hw) (hc.dvd_add_remainderOf hw')

/-- A multiple of the generator leaves a zero remainder. -/
theorem remainderOf_eq_zero_of_dvd (hc : RepresentsCodec s φ) {w : List Nat} (hw : overField s.m.toNat w)
    (hdvd : listPoly φ (genSeq s) ∣ listPoly φ w) : ∀ x ∈ remainderOf s w, x = 0 := by
  have hzero := overField_replicate_zero s.m.toNat (s.n.toNat - s.k.toNat)
  have hpoly : listPoly φ (List.replicate (s.n.toNat - s.k.toNat) 0) = 0 :=
    hc.represents.listPoly_of_polyDeg_neg (polyDeg_neg_iff.2 fun _ => List.eq_of_mem_replicate)
  rw [(hc.remainderOf_eq_iff hw hzero List.length_replicate).2 (by rwa [hpoly, add_zero])]
  exact fun _ => List.eq_of_mem_replicate

/-- A multiple of the generator has zero syndromes: 1..2t are members of the cosets (R151, R182). -/
theorem syndromes_eq_zero_of_dvd (hc : RepresentsCodec s φ) {w : List Nat} (hw : overField s.m.toNat w)
    (hdvd : listPoly φ (genSeq s) ∣ listPoly φ w) : ∀ x ∈ syndromes s.field s.t.toNat w, x = 0 := by
  obtain ⟨hm2, hm8⟩ := hc.accepted.degree
  obtain ⟨-, hmem, -⟩ := cosetsAreTheOrbits _ _ _ hm2 hm8 hc.n_eq hc.legal_t
  rw [syndromes_eq_map, List.forall_mem_map]
  intro p hp
  have hroot := eval_rootPoly (F := builtField s.m.toNat s.prim.toNat) (φ := φ)
    (hmem (p + 1) (by omega) (List.mem_range.1 hp))
  have hmultiple := eval_eq_zero_of_dvd_of_eval_eq_zero (hc.generates.associated.symm.dvd.trans hdvd) hroot
  rw [hc.field_eq, hc.represents.polyEval_eq_zero_iff hc.accepted (alphaPow_lt hc.accepted _) hw]
  exact hmultiple

/-! ### Codewords (R171, R173) -/

theorem overField_codeword (hc : RepresentsCodec s φ) {msg : List Nat} (h : overField s.m.toNat msg) :
    overField s.m.toNat (codeword s msg) :=
  overField_append (hc.overField_remainderOf (overField_shiftedMessage s h)) h

/-- Every codeword is a multiple of the generator (R171). -/
theorem dvd_codeword (hc : RepresentsCodec s φ) {msg : List Nat} (h : overField s.m.toNat msg) :
    listPoly φ (genSeq s) ∣ listPoly φ (codeword s msg) := by
  have hmsg := overField_shiftedMessage s h
  rw [codeword_eq_polyAdd, hc.represents.listPoly_polyAdd (hc.overField_remainderOf hmsg) hmsg, add_comm]
  exact hc.dvd_add_remainderOf hmsg

/-- The encoder is linear (R173). -/
theorem codeword_polyAdd (hc : RepresentsCodec s φ) {msg msg' : List Nat} (h : overField s.m.toNat msg)
    (h' : overField s.m.toNat msg') :
    codeword s (polyAdd msg msg') = polyAdd (codeword s msg) (codeword s msg') := by
  have hparity := hc.remainderOf_polyAdd (overField_shiftedMessage s h) (overField_shiftedMessage s h')
  rw [codeword, codeword, codeword, shiftedMessage_polyAdd, hparity, polyAdd_append (by simp)]

end RepresentsCodec

/-- Settles O46: a codeword is a multiple of the generator, whose roots are those of the syndromes, and the remainder is
the only one of its length. -/
theorem encodeThenDecodeRoundTrip : Obligations.EncodeThenDecodeRoundTrip := by
  unfold Obligations.EncodeThenDecodeRoundTrip
  intro s msg msg' hinv hshape hs _ hbits _ hbits'
  obtain ⟨K, _, φ, hc⟩ := hinv.exists_representsCodec hs
  have hmsg := hc.overField_of_bits hbits
  have hmsg' := hc.overField_of_bits hbits'
  have hcw := hc.overField_codeword hmsg
  have hdvd := hc.dvd_codeword hmsg
  have hsyn := hc.syndromes_eq_zero_of_dvd hcw hdvd
  have hrem := hc.remainderOf_eq_zero_of_dvd hcw hdvd
  have hback := msgOf_codeword s msg
  refine ⟨codeword s msg, codeword s msg', bchEncode_eq_codeword hshape msg, bchEncode_eq_codeword hshape msg',
    hsyn, hrem, ?_, ?_, ?_, ?_⟩
  · rw [bchDecode_of_syndromes_zero (c := s.codec) hsyn, hback]
    rfl
  · rw [bchDecodeBM_of_syndromes_zero (c := s.codec) hsyn, hback]
    rfl
  · rw [bchDecodeMG_of_remainderOf_zero hshape hrem, hback]
    rfl
  · rw [bchEncode_eq_codeword hshape, hc.codeword_polyAdd hmsg hmsg']

end Sys2Proof.Machine
end

section
/-! SUPPORT. `SYND`, `PETERSON` and `CHIEN`: the sums, the largest nonsingular system and the roots that the commands
write (R181 to R191). -/

namespace Sys2Proof.Machine

/-! ### The operands of the decoder's commands -/

/-- In a configured codec a command goes on with the entries of its written source (R31, R23). -/
theorem requireState_readV_bind {s : State} {va : VReg} {xs : List Byte} (hs : s.state = 2) (hx : holdsV s va xs)
    (f : List Byte → Except Err State) : (requireState s 2 >>= fun _ => readV s va >>= f) = f xs := by
  rw [requireState, ensure_eq_ok.2 (show 2 ≤ s.state.toNat by rw [hs]; decide), readV_eq_ok.2 hx]
  rfl

/-- A sequence that fits is written, then a number, and the command ends (R13, R305). -/
theorem finish_putV_putS {s : State} {vd : VReg} {sd : SReg} {p : List Nat} (v : Int) (hp : p.length ≤ s.vlmax.toNat) :
    finish s (putV s vd p >>= fun u => .ok (putS u sd v)) = .next { s with
      vectors := s.vectors.set vd ⟨true, toBytes p⟩,
      scalars := s.scalars.set sd ⟨true, BitVec.ofInt 32 v⟩, err := 0 } :=
  finish_eq_complete (t := putS (s.setVector vd (toBytes p)) sd v) (bind_eq_ok.2 ⟨_, putV_eq_ok.2 ⟨hp, rfl⟩, rfl⟩)

theorem forall_mem_elems_eq_zero {xs : List Byte} : (∀ x ∈ elems xs, x = 0) ↔ ∀ x ∈ xs, x = 0 := by
  rw [← polyDeg_neg_iff, polyDeg_elems_neg_iff]

theorem forall_mem_elems_le_one {xs : List Byte} (h : allBits xs) : ∀ b ∈ elems xs, b ≤ 1 := List.forall_mem_map.2 h

/-! ### `SYND` (R181 to R183) -/

/-- A sum in which only the terms at some positions are not 0. -/
theorem gfSum_map_eq_gfSum_filter {l : List Nat} {keep : Nat → Bool} {f g : Nat → Nat}
    (hkeep : ∀ j ∈ l, keep j = true → f j = g j) (hdrop : ∀ j ∈ l, ¬ keep j = true → f j = 0) :
    gfSum (l.map f) = gfSum ((l.filter keep).map g) := by
  induction l with
  | nil => rfl
  | cons j l ih =>
    obtain ⟨hj, hl⟩ := List.forall_mem_cons.1 hkeep
    obtain ⟨hj0, hl0⟩ := List.forall_mem_cons.1 hdrop
    rw [List.map_cons, gfSum_cons, ih hl hl0]
    by_cases h : keep j = true
    · rw [List.filter_cons_of_pos h, List.map_cons, gfSum_cons, hj h]
    · rw [List.filter_cons_of_neg h, hj0 h, gfAdd_zero_left]

/-- The value of a polynomial, entry by entry (R181). -/
theorem polyEval_eq_gfSum_range (F : Field) (p : List Nat) (x : Nat) :
    polyEval F p x = gfSum ((List.range p.length).map fun j => gfMul F (p.getD j 0) (gfPow F x j)) := by
  refine congrArg gfSum (List.ext_getElem (by simp) fun i hi _ => ?_)
  rw [List.length_map, List.length_zipIdx] at hi
  simp [List.getElem?_eq_getElem hi]

/-- A power of α with a natural exponent is an entry of `EXP` (R33, R104). -/
theorem alphaPow_natCast_eq_expEntry (F : Field) (i : Nat) : alphaPow F i = (expEntry F.exp (i % F.n)).toNat := by
  rw [alphaPow, ← Int.natCast_mod, Int.toNat_natCast]

/-- The value of a bit vector at a power of α is the sum of powers of α over the positions of its ones (R182). -/
theorem polyEval_bits_alphaPow {m prim : Nat} (h : accepted m prim) {r : List Nat} (hbits : ∀ b ∈ r, b ≤ 1) (e : Int) :
    polyEval (builtField m prim) r (alphaPow (builtField m prim) e) =
      gfSum (((List.range r.length).filter fun j => r.getD j 0 = 1).map fun j : Nat =>
        alphaPow (builtField m prim) (e * j)) := by
  rw [polyEval_eq_gfSum_range]
  refine gfSum_map_eq_gfSum_filter (fun j _ hone => ?_) fun j hj hother => ?_
  · have hone : r.getD j 0 = 1 := of_decide_eq_true hone
    rw [hone, gfPow_alphaPow h, one_gfMul h (alphaPow_lt h _)]
  · have hother : r.getD j 0 ≠ 1 := fun hone => hother (decide_eq_true hone)
    have hle : r.getD j 0 ≤ 1 := by
      rw [List.getD_eq_getElem _ _ (List.mem_range.1 hj)]
      exact hbits _ (List.getElem_mem _)
    rw [show r.getD j 0 = 0 by omega, gfMul_zero_left]

/-- `SYND` with a written operand goes on from the check of the word (R183). -/
theorem exec_synd_of_holds {vd va : VReg} {s : State} {xs : List Byte} (hs : s.state = 2) (hx : holdsV s va xs) :
    exec (.synd vd va) s = finish s (bitOperand s.n.toNat .wrongCodewordLength xs >>= fun r =>
      putV s vd (syndromes s.field s.t.toNat r)) :=
  congrArg (finish s) (requireState_readV_bind hs hx _)

theorem syndromes_length (F : Field) (t : Nat) (r : List Nat) : (syndromes F t r).length = 2 * t := by
  rw [syndromes_eq_map, List.length_map, List.length_range]

/-- The syndromes of a word of n bits in a configured field, read from `EXP` (R182). -/
theorem Inv.syndromes_elems_eq {s : State} (hinv : Inv s) (hs : 1 ≤ s.state.toNat) {xs : List Byte}
    (hlen : xs.length = s.n.toNat) (hbits : allBits xs) :
    syndromes s.field s.t.toNat (elems xs) = (List.range (2 * s.t.toNat)).map fun p =>
      gfSum (((List.range s.n.toNat).filter fun j => xs.getD j 0 = 1).map fun j =>
        (expEntry s.exp ((p + 1) * j % s.n.toNat)).toNat) := by
  obtain ⟨hacc, hfield⟩ := hinv.field_eq hs
  have hone : ∀ j, (elems xs).getD j 0 = 1 ↔ xs.getD j 0 = 1 := fun j => by
    rw [getD_elems]
    exact BitVec.toNat_inj (y := 1)
  have hpow : ∀ p j : Nat, alphaPow s.field ((p + 1 : Nat) * (j : Int)) =
      (expEntry s.exp ((p + 1) * j % s.n.toNat)).toNat := fun p j => by
    rw [← Nat.cast_mul]
    exact alphaPow_natCast_eq_expEntry s.field _
  rw [syndromes_eq_map]
  refine List.map_congr_left fun p _ => ?_
  rw [hfield, polyEval_bits_alphaPow hacc (forall_mem_elems_le_one hbits), ← hfield, elems_length, hlen]
  simp only [hone, hpow]

/-- Settles O47: the terms of the zeros vanish, and a syndrome's other terms are powers of α. -/
theorem syndWritesTheSyndromes : Obligations.SyndWritesTheSyndromes := by
  unfold Obligations.SyndWritesTheSyndromes
  intro vd va s xs hinv hx hs
  rw [exec_synd_of_holds hs hx]
  refine ⟨fun hlen => ?_, fun hlen hbad => ?_, fun hlen hbits => ?_⟩
  · rw [bitOperand_of_length_ne hlen]
    rfl
  · rw [bitOperand_of_not_allBits hlen hbad]
    rfl
  · have ht := s.t.isLt
    rw [bitOperand_of_allBits hlen hbits, ← hinv.syndromes_elems_eq (by rw [hs]; decide) hlen hbits]
    exact finish_putV_of_le (by rw [hinv.vlmax_eq, syndromes_length]; omega)

/-! ### `PETERSON` (R187 to R189) -/

section
variable {F : Field} {S : List Nat} {t : Nat}

/-- The loop stops at the largest side whose system is nonsingular (R187). -/
theorem petersonLoop_of_largest {u : Nat} (hpos : 1 ≤ u) (hle : u ≤ t) (hdet : gfDet F u (syndromeMatrix S u) ≠ 0)
    (hsingular : ∀ u', u < u' → u' ≤ t → gfDet F u' (syndromeMatrix S u') = 0) :
    petersonLoop F S t = ((u : Int), 1 :: (cramer F S u).reverse) := by
  induction t with
  | zero => omega
  | succ t ih =>
    by_cases hu : u = t + 1
    · subst hu
      exact if_pos hdet
    · rw [petersonLoop, if_neg (not_not.2 (hsingular (t + 1) (by omega) le_rfl))]
      exact ih (by omega) fun u' hlt hle' => hsingular u' hlt (by omega)

/-- The loop answers -1 when every system is singular (R187). -/
theorem petersonLoop_of_singular (hsingular : ∀ u, 1 ≤ u → u ≤ t → gfDet F u (syndromeMatrix S u) = 0) :
    petersonLoop F S t = (-1, [1]) := by
  induction t with
  | zero => rfl
  | succ t ih =>
    rw [petersonLoop, if_neg (not_not.2 (hsingular (t + 1) (by omega) le_rfl))]
    exact ih fun u hpos hle => hsingular u hpos (by omega)

theorem cramer_length (F : Field) (S : List Nat) (v : Nat) : (cramer F S v).length = v := by
  rw [cramer, List.length_map, List.length_range]

theorem petersonLoop_length_le (F : Field) (S : List Nat) (t : Nat) : (petersonLoop F S t).2.length ≤ t + 1 := by
  induction t with
  | zero => exact le_rfl
  | succ t ih =>
    rw [petersonLoop]
    split
    · rw [List.length_cons, List.length_reverse, cramer_length]
    · omega

/-- The locator has at most t + 1 entries (R187). -/
theorem petersonSolve_length_le (F : Field) (S : List Nat) (t : Nat) : (petersonSolve F S t).2.length ≤ t + 1 := by
  rw [petersonSolve]
  split
  · exact Nat.le_add_left 1 t
  · exact petersonLoop_length_le F S t

theorem petersonSolve_of_zero (h : ∀ x ∈ S, x = 0) : petersonSolve F S t = (0, [1]) := if_pos h

theorem petersonSolve_of_ne_zero (h : ¬ ∀ x ∈ S, x = 0) : petersonSolve F S t = petersonLoop F S t := if_neg h

end

/-- `PETERSON` with a written operand goes on from the checks of the vector (R188). -/
theorem exec_peterson_of_holds {vd : VReg} {sd : SReg} {va : VReg} {s : State} {xs : List Byte} (hs : s.state = 2)
    (hx : holdsV s va xs) : exec (.peterson vd sd va) s =
    finish s (ensure (xs.length = 2 * s.t.toNat) .wrongOperandLength >>= fun _ => polyOperand s xs >>= fun S =>
      putV s vd (petersonSolve s.field S s.t.toNat).2 >>= fun u =>
        .ok (putS u sd (petersonSolve s.field S s.t.toNat).1)) :=
  congrArg (finish s) (requireState_readV_bind hs hx _)

/-- Settles O48: each of the three descriptions of (v, Λ) is that of the answer of the solve. -/
theorem petersonSolvesTheLargestSystem : Obligations.PetersonSolvesTheLargestSystem := by
  unfold Obligations.PetersonSolvesTheLargestSystem
  intro vd sd va s xs hinv hx hs
  rw [exec_peterson_of_holds hs hx]
  refine ⟨fun hlen => ?_, fun hlen hbad => ?_, fun hlen helems v locator hcases => ?_⟩
  · rw [ensure_eq_error.2 ⟨hlen, rfl⟩]
    rfl
  · rw [ensure_eq_ok.2 hlen, polyOperand_of_not_allElems hbad]
    rfl
  · have hnonzero : (∃ x ∈ xs, x ≠ 0) → ¬ ∀ x ∈ elems xs, x = 0 := by
      rw [forall_mem_elems_eq_zero]
      exact fun ⟨x, hxs, hx0⟩ hall => hx0 (hall x hxs)
    have hsolve : petersonSolve s.field (elems xs) s.t.toNat = (v, locator) := by
      obtain ⟨hzero, rfl, rfl⟩ | ⟨hne, ⟨u, rfl, hpos, hle, hdet, hsingular, rfl⟩⟩ | ⟨hne, rfl, rfl, hsingular⟩ := hcases
      · exact petersonSolve_of_zero (forall_mem_elems_eq_zero.2 hzero)
      · rw [petersonSolve_of_ne_zero (hnonzero hne), petersonLoop_of_largest hpos hle hdet hsingular]
      · rw [petersonSolve_of_ne_zero (hnonzero hne), petersonLoop_of_singular hsingular]
    have hfits := petersonSolve_length_le s.field (elems xs) s.t.toNat
    have ht := s.t.isLt
    rw [ensure_eq_ok.2 hlen, polyOperand_of_allElems helems]
    show finish s (putV s vd (petersonSolve s.field (elems xs) s.t.toNat).2 >>= fun u =>
      .ok (putS u sd (petersonSolve s.field (elems xs) s.t.toNat).1)) = _
    rw [hsolve] at hfits ⊢
    exact finish_putV_putS v (by rw [hinv.vlmax_eq]; omega)

/-! ### `CHIEN` (R190, R191) -/

theorem chien_pairwise (F : Field) (locator : List Nat) : (chien F locator).Pairwise (· < ·) :=
  List.pairwise_lt_range.filter _

theorem chien_length_le (F : Field) (locator : List Nat) : (chien F locator).length ≤ F.n :=
  (List.length_filter_le _ _).trans_eq List.length_range

/-- The search finds the positions below n at which the value at α^(-i), the same as at α^(n-i), is 0 (R190). -/
theorem mem_chien_iff {F : Field} {locator : List Nat} {i : Nat} :
    i ∈ chien F locator ↔ i < F.n ∧ polyEval F locator (alphaPow F (-(i : Int))) = 0 := by
  have hmod : (F.n : Int) - i ≡ 0 - i [ZMOD F.n] := (Int.modEq_zero_iff_dvd.2 dvd_rfl).sub_right _
  rw [chien, List.mem_filter, List.mem_range, decide_eq_true_iff, alphaPow_congr hmod, zero_sub]

/-- `CHIEN` with a written operand goes on from the check of the polynomial (R191). -/
theorem exec_chien_of_holds {vd : VReg} {sd : SReg} {va : VReg} {s : State} {xs : List Byte} (hs : s.state = 2)
    (hx : holdsV s va xs) : exec (.chien vd sd va) s =
    finish s (polyOperand s xs >>= fun locator => putV s vd (chien s.field locator) >>= fun u =>
      .ok (putS u sd (chien s.field locator).length)) :=
  congrArg (finish s) (requireState_readV_bind hs hx _)

/-- Settles O49: the positions are those that the search keeps of 0..n-1, in their order. -/
theorem chienFindsTheRoots : Obligations.ChienFindsTheRoots := by
  unfold Obligations.ChienFindsTheRoots
  intro vd sd va s xs hinv hx hs
  rw [exec_chien_of_holds hs hx]
  refine ⟨fun helems => ⟨chien s.field (elems xs), chien_pairwise _ _, fun i => mem_chien_iff, ?_⟩, fun hbad => ?_⟩
  · have hle : (chien s.field (elems xs)).length ≤ s.n.toNat := chien_length_le _ _
    have hn := s.n.isLt
    rw [polyOperand_of_allElems helems, ← BitVec.ofInt_natCast]
    exact finish_putV_putS _ (by rw [hinv.vlmax_eq]; omega)
  · rw [polyOperand_of_not_allElems hbad]
    rfl

end Sys2Proof.Machine
end

section
/-! SUPPORT. `DEC`: the terminal states of strategy 1, and what a decode command writes (R192 to R194). -/

namespace Sys2Proof.Machine

/-! ### What a decode command writes (R194) -/

/-- Two different vector destinations make `DEC` a legal command in every build (R24, R37). -/
theorem requireLegal_dec {s : State} {vm vc : VReg} (h : vm ≠ vc) (sd : SReg) (va : VReg) :
    requireLegal s (.dec vm vc sd va) = .ok () :=
  ensure_eq_ok.2 (by
    simp [WellFormed, Instr.unitPresent, Instr.featBit, Instr.distinctDests, Instr.scalarDests, Instr.vectorDests, h])

/-- `DEC` with a written operand goes on from the check of the word (R194). -/
theorem exec_dec_of_holds {vm vc : VReg} {sd : SReg} {va : VReg} {s : State} {xs : List Byte} (hne : vm ≠ vc)
    (hs : s.state = 2) (hx : holdsV s va xs) : exec (.dec vm vc sd va) s =
    finish s (bitOperand s.n.toNat .wrongCodewordLength xs >>= fun r =>
      putDecoded s vm vc sd (bchDecode s.codec r)) := by
  show finish s (requireLegal s (.dec vm vc sd va) >>= fun _ => _) = _
  rw [requireLegal_dec hne]
  exact congrArg (finish s) (requireState_readV_bind hs hx _)

/-- A decode whose word fits writes it with its message part, the count and the reason (R194). -/
theorem finish_putDecoded {s : State} {vm vc : VReg} {sd : SReg} {msg word : List Nat} (count : Int)
    (reason : BitVec 8) (hmsg : msg.length ≤ s.vlmax.toNat) (hword : word.length ≤ s.vlmax.toNat) :
    finish s (putDecoded s vm vc sd ⟨msg, word, count, reason⟩) =
      .next (decodedTo s vm vc sd (toBytes msg) (toBytes word) count reason) := by
  have hfirst : putV s vm msg = .ok (s.setVector vm (toBytes msg)) := putV_eq_ok.2 ⟨hmsg, rfl⟩
  have hsecond : putV (s.setVector vm (toBytes msg)) vc word =
      .ok ((s.setVector vm (toBytes msg)).setVector vc (toBytes word)) := putV_eq_ok.2 ⟨hword, rfl⟩
  rw [putDecoded, hfirst]
  show finish s (putV (s.setVector vm (toBytes msg)) vc word >>= _) = _
  rw [hsecond]
  rfl

/-- A decode of a word of n entries, whose message part is that of the word (R192, R194). -/
theorem Inv.finish_putDecoded_of_length {s : State} (hinv : Inv s) {vm vc : VReg} {sd : SReg} {word : List Nat}
    (count : Int) (reason : BitVec 8) (hlen : word.length = s.n.toNat) :
    finish s (putDecoded s vm vc sd ⟨msgOf s.codec word, word, count, reason⟩) =
      .next (decodedTo s vm vc sd (messagePart s (toBytes word)) (toBytes word) count reason) := by
  have hvlmax := hinv.vlmax_eq
  have hn := s.n.isLt
  have hmsg : toBytes (msgOf s.codec word) = messagePart s (toBytes word) := List.map_drop
  have hle : (msgOf s.codec word).length ≤ word.length := by
    rw [msgOf, List.length_drop]
    exact Nat.sub_le _ _
  rw [finish_putDecoded count reason (by omega) (by omega), hmsg]

/-! ### The terminal states of strategy 1 (R193) -/

section
variable {c : Codec} {r locator : List Nat} {count : Int}

theorem locateAndFlip_of_mismatch (h : ((chien c.field locator).length : Int) ≠ count) :
    locateAndFlip c r locator count = rejected c r drLocationMismatch := if_pos h

theorem locateAndFlip_of_match (h : ((chien c.field locator).length : Int) = count) :
    locateAndFlip c r locator count =
      ⟨msgOf c (flipBits r (chien c.field locator)), flipBits r (chien c.field locator), count, drCorrected⟩ :=
  if_neg (not_not.2 h)

theorem bchDecode_of_no_solution (hne : ¬ ∀ x ∈ syndromes c.field c.t r, x = 0)
    (hsolve : petersonSolve c.field (syndromes c.field c.t r) c.t = (-1, locator)) :
    bchDecode c r = rejected c r drNoSolution := by
  rw [bchDecode, if_neg hne, hsolve]
  exact if_pos rfl

theorem bchDecode_of_solution (hne : ¬ ∀ x ∈ syndromes c.field c.t r, x = 0)
    (hsolve : petersonSolve c.field (syndromes c.field c.t r) c.t = (count, locator)) (hcount : count ≠ -1) :
    bchDecode c r = locateAndFlip c r locator count := by
  rw [bchDecode, if_neg hne, hsolve]
  exact if_neg hcount

end

/-! ### Flipped bits (R192) -/

@[simp] theorem flipBits_length (r pos : List Nat) : (flipBits r pos).length = r.length := by
  rw [flipBits, List.length_map, List.length_zipIdx]

theorem getElem_flipBits (r pos : List Nat) (i : Nat) (hi : i < (flipBits r pos).length) :
    (flipBits r pos)[i] = if i ∈ pos then r[i]'(by simpa using hi) ^^^ 1 else r[i]'(by simpa using hi) := by
  simp [flipBits]

/-- The flips as they stand in a register. -/
theorem toBytes_flipBits_elems (xs : List Byte) (pos : List Nat) :
    toBytes (flipBits (elems xs) pos) = xs.mapIdx fun i x => if i ∈ pos then x ^^^ 1 else x := by
  have hflip : ∀ x : Byte, BitVec.ofNat 8 (x.toNat ^^^ 1) = x ^^^ 1 := fun x => by
    rw [BitVec.ofNat_xor, BitVec.ofNat_toNat, BitVec.setWidth_eq]
    rfl
  refine List.ext_getElem (by simp [toBytes]) fun i _ _ => ?_
  simp only [toBytes, elems, List.getElem_map, getElem_flipBits, List.getElem_mapIdx]
  split
  · exact hflip _
  · rw [BitVec.ofNat_toNat, BitVec.setWidth_eq]

/-- Settles O50: each description of the syndromes, the solve and the roots is that of one end of the decode. -/
theorem decReachesItsTerminalStates : Obligations.DecReachesItsTerminalStates := by
  unfold Obligations.DecReachesItsTerminalStates
  rintro vm vc sd va s xs S v locator pos hinv hx hs hvne rfl hsolve rfl
  rw [exec_dec_of_holds hvne hs hx]
  refine ⟨fun hlen => ?_, fun hlen hbad => ?_, fun hlen hbits => ?_⟩
  · rw [bitOperand_of_length_ne hlen]
    rfl
  · rw [bitOperand_of_not_allBits hlen hbad]
    rfl
  have hwordLen : (elems xs).length = s.n.toNat := (elems_length xs).trans hlen
  have hback : toBytes (elems xs) = xs := map_ofNat_elems xs
  have hnonzero : (∃ x ∈ syndromes s.field s.t.toNat (elems xs), x ≠ 0) →
      ¬ ∀ x ∈ syndromes s.codec.field s.codec.t (elems xs), x = 0 := fun ⟨x, hmem, hx0⟩ hall => hx0 (hall x hmem)
  have hreject : ∀ reason, finish s (putDecoded s vm vc sd (rejected s.codec (elems xs) reason)) =
      .next (decodedTo s vm vc sd (messagePart s xs) xs (-1) reason) := fun reason => by
    rw [rejected, hinv.finish_putDecoded_of_length _ _ hwordLen, hback]
  have hrule : finish s (bitOperand s.n.toNat .wrongCodewordLength xs >>= fun r =>
      putDecoded s vm vc sd (bchDecode s.codec r)) =
        finish s (putDecoded s vm vc sd (bchDecode s.codec (elems xs))) := by
    rw [bitOperand_of_allBits hlen hbits]
    rfl
  rw [hrule]
  refine ⟨fun hzero => ?clean, fun hne hv => ?noSolution, fun hne hv hcount => ?mismatch,
    fun hne hv hcount word hword => ?corrected⟩
  case clean =>
    rw [bchDecode_of_syndromes_zero (c := s.codec) hzero, hinv.finish_putDecoded_of_length _ _ hwordLen, hback]
    rfl
  case noSolution =>
    subst hv
    rw [bchDecode_of_no_solution (hnonzero hne) hsolve.symm]
    exact hreject _
  case mismatch =>
    rw [bchDecode_of_solution (hnonzero hne) hsolve.symm hv, locateAndFlip_of_mismatch (c := s.codec) hcount]
    exact hreject _
  case corrected =>
    rw [bchDecode_of_solution (hnonzero hne) hsolve.symm hv, locateAndFlip_of_match (c := s.codec) hcount,
      hinv.finish_putDecoded_of_length _ _ (by rw [flipBits_length, hwordLen]), toBytes_flipBits_elems, hword]
    rfl

end Sys2Proof.Machine
end

section
/-! SUPPORT. A codeword with one error: its syndromes are powers of the error's locator, from which strategies 1 and 2
of a codec with t = 1 find the position (R182, R187, R190, R211). -/

namespace Sys2Proof.Machine

open Polynomial

/-! ### The error vector -/

/-- The word of length n that holds 1 at position p and 0 elsewhere. -/
def unitWord (n p : Nat) : List Nat := (List.replicate n 0).set p 1

@[simp] theorem unitWord_length (n p : Nat) : (unitWord n p).length = n := by
  rw [unitWord, List.length_set, List.length_replicate]

theorem getElem_unitWord (n p i : Nat) (hi : i < (unitWord n p).length) :
    (unitWord n p)[i] = if i = p then 1 else 0 := by
  simp [unitWord, List.getElem_set, eq_comm]

theorem getD_unitWord {n p : Nat} (hp : p < n) (i : Nat) : (unitWord n p).getD i 0 = if i = p then 1 else 0 := by
  by_cases hi : i < (unitWord n p).length
  · rw [List.getD_eq_getElem _ _ hi, getElem_unitWord]
  · rw [unitWord_length] at hi
    rw [List.getD_eq_default _ _ (by rw [unitWord_length]; omega), if_neg (by omega)]

theorem overField_unitWord {m : Nat} (hm : 1 < 2 ^ m) (n p : Nat) : overField m (unitWord n p) := fun x hx => by
  obtain ⟨i, hi, rfl⟩ := List.getElem_of_mem hx
  rw [getElem_unitWord]
  split <;> omega

/-- A flipped bit is the sum with the error vector (R105, R192). -/
theorem flipBits_singleton (w : List Nat) (p : Nat) : flipBits w [p] = polyAdd w (unitWord w.length p) := by
  have hlen : (flipBits w [p]).length = (polyAdd w (unitWord w.length p)).length := by
    rw [flipBits_length, polyAdd_length, unitWord_length, max_self]
  refine List.ext_getElem hlen fun i hi hi' => ?_
  rw [flipBits_length] at hi
  rw [getElem_flipBits, ← List.getD_eq_getElem _ 0 hi', getD_polyAdd, List.getD_eq_getElem _ _ hi,
    List.getD_eq_getElem _ _ (by rwa [unitWord_length]), getElem_unitWord]
  by_cases h : i = p
  · rw [if_pos (List.mem_singleton.2 h), if_pos h, gfAdd]
  · rw [if_neg (List.mem_singleton.not.2 h), if_neg h, gfAdd_zero_right]

/-- Flipping the same bits twice gives the word back (R192). -/
theorem flipBits_flipBits (w pos : List Nat) : flipBits (flipBits w pos) pos = w := by
  refine List.ext_getElem (by simp) fun i _ _ => ?_
  rw [getElem_flipBits, getElem_flipBits]
  split
  · rw [Nat.xor_assoc, Nat.xor_self, Nat.xor_zero]
  · rfl

/-! ### The syndromes (R182) -/

section
variable {m prim : Nat} {K : Type} [CommRing K] {φ : Nat → K}

/-- The error vector is a power of x. -/
theorem Represents.listPoly_unitWord (hφ : Represents (builtField m prim) m φ) (h : accepted m prim) {n p : Nat}
    (hp : p < n) : listPoly φ (unitWord n p) = X ^ p :=
  Polynomial.ext fun i => by
    rw [hφ.coeff_listPoly, getD_unitWord hp, coeff_X_pow]
    split
    · exact hφ.one h
    · exact hφ.zero

/-- `polyEval` is linear (R181). -/
theorem Represents.polyEval_polyAdd (hφ : Represents (builtField m prim) m φ) (h : accepted m prim) {x : Nat}
    (hx : x < 2 ^ m) {p q : List Nat} (hp : overField m p) (hq : overField m q) :
    polyEval (builtField m prim) (polyAdd p q) x =
      gfAdd (polyEval (builtField m prim) p x) (polyEval (builtField m prim) q x) := by
  obtain ⟨hpLt, hpVal⟩ := hφ.polyEval_eq h hx hp
  obtain ⟨hqLt, hqVal⟩ := hφ.polyEval_eq h hx hq
  obtain ⟨hlt, hval⟩ := hφ.polyEval_eq h hx (overField_polyAdd hp hq)
  refine hφ.injective hlt (Nat.xor_lt_two_pow hpLt hqLt) ?_
  rw [hval, hφ.add hpLt hqLt, hpVal, hqVal, hφ.listPoly_polyAdd hp hq, eval_add]

/-- The error vector takes at a power of α a power of that power (R181). -/
theorem Represents.polyEval_unitWord (hφ : Represents (builtField m prim) m φ) (h : accepted m prim) {n p : Nat}
    (hp : p < n) (e : Int) : polyEval (builtField m prim) (unitWord n p) (alphaPow (builtField m prim) e) =
      alphaPow (builtField m prim) (e * p) := by
  obtain ⟨hlt, hval⟩ := hφ.polyEval_eq h (alphaPow_lt h e) (overField_unitWord h.one_lt n p)
  refine hφ.injective hlt (alphaPow_lt h _) ?_
  rw [hval, hφ.listPoly_unitWord h hp, eval_pow, eval_X, hφ.alphaPow_mul_natCast h]

end

/-- Syndrome i of a word with zero syndromes and one error, at position p, is α^((i+1)p) (R182). -/
theorem RepresentsCodec.syndromes_flipBits {s : State} {K : Type} [CommRing K] {φ : Nat → K} (hc : RepresentsCodec s φ)
    {w : List Nat} (hw : overField s.m.toNat w) (hzero : ∀ x ∈ syndromes s.field s.t.toNat w, x = 0) {p : Nat}
    (hp : p < w.length) : syndromes s.field s.t.toNat (flipBits w [p]) =
      (List.range (2 * s.t.toNat)).map fun i : Nat => alphaPow s.field ((i + 1 : Nat) * p) := by
  rw [syndromes_eq_map, List.forall_mem_map] at hzero
  rw [syndromes_eq_map, flipBits_singleton]
  refine List.map_congr_left fun i hi => ?_
  have hclean := hzero i hi
  rw [hc.field_eq] at hclean ⊢
  rw [hc.represents.polyEval_polyAdd hc.accepted (alphaPow_lt hc.accepted _) hw
    (overField_unitWord hc.accepted.one_lt _ p), hclean, gfAdd_zero_left, hc.represents.polyEval_unitWord hc.accepted hp]

/-! ### The locator of one error (R187, R211) -/

/-- Powers of α are equal exactly when their exponents are equal modulo n (R102, R104). -/
theorem alphaPow_eq_iff {m prim : Nat} (h : accepted m prim) {e f : Int} :
    alphaPow (builtField m prim) e = alphaPow (builtField m prim) f ↔ e ≡ f [ZMOD (builtField m prim).n] := by
  refine ⟨fun heq => ?_, alphaPow_congr⟩
  rw [Int.ModEq, ← logOf_alphaPow h, ← logOf_alphaPow h, heq]

/-- The determinant of a system of side 1 (R186). -/
theorem gfDet_singleton (F : Field) (a : Nat) : gfDet F 1 [[a]] = gfMul F a 1 := gfAdd_zero_left _

section
variable {F : Field} {S : List Nat} {x : BmState} {r : Nat}

/-- A step without a discrepancy keeps the locator (R211). -/
theorem bmStep_of_eq_zero (h : bmDiscrepancy F S x r = 0) : bmStep F S x r = { x with m := x.m + 1 } := if_pos h

/-- A step with a discrepancy mends the locator, and lengthens it when it is short (R211). -/
theorem bmStep_of_short {d : Nat} (h : bmDiscrepancy F S x r = d) (hd : d ≠ 0) (hshort : 2 * x.L ≤ r) :
    bmStep F S x r =
      ⟨polyAdd x.C (List.replicate x.m 0 ++ x.B.map (gfMul F (gfMul F d (gfInv F x.b)))), x.C, r + 1 - x.L, 1, d⟩ := by
  subst h
  exact (if_neg hd).trans (if_pos hshort)

end

/-- The two syndromes of one error whose position has the locator α^e, in a codec with t = 1 (R182). -/
def singleSyndromes (F : Field) (e : Int) : List Nat := [alphaPow F e, alphaPow F (2 * e)]

section
variable {m prim : Nat} (h : accepted m prim)

include h

theorem alphaPow_gfMul_one (e : Int) :
    gfMul (builtField m prim) (alphaPow (builtField m prim) e) 1 = alphaPow (builtField m prim) e := by
  rw [gfMul_comm, one_gfMul h (alphaPow_lt h e)]

theorem singleSyndromes_ne_zero (e : Int) : ¬ ∀ x ∈ singleSyndromes (builtField m prim) e, x = 0 :=
  fun hall => alphaPow_ne_zero h e (hall _ List.mem_cons_self)

/-- The solve takes the quotient of the syndromes (R187). -/
theorem petersonSolve_singleSyndromes (e : Int) :
    petersonSolve (builtField m prim) (singleSyndromes (builtField m prim) e) 1 =
      (1, [1, alphaPow (builtField m prim) e]) := by
  generalize hS : singleSyndromes (builtField m prim) e = S
  have hdet : gfDet (builtField m prim) 1 (syndromeMatrix S 1) = alphaPow (builtField m prim) e := by
    rw [← hS]
    exact (gfDet_singleton _ _).trans (alphaPow_gfMul_one h e)
  have hdetRhs : gfDet (builtField m prim) 1 (replaceColumn (syndromeMatrix S 1) 0 (syndromeRhs S 1)) =
      alphaPow (builtField m prim) (2 * e) := by
    rw [← hS]
    exact (gfDet_singleton _ _).trans (alphaPow_gfMul_one h _)
  have hquotient : 2 * e + -e = e := by ring
  have hcramer : cramer (builtField m prim) S 1 = [alphaPow (builtField m prim) e] := by
    rw [cramer, List.range_one, List.map_singleton, hdet, hdetRhs, gfInv_alphaPow h, gfMul_alphaPow h, hquotient]
  rw [petersonSolve_of_ne_zero (hS ▸ singleSyndromes_ne_zero h e), petersonLoop_of_largest (u := 1) le_rfl le_rfl
    (hdet.trans_ne (alphaPow_ne_zero h e)) (fun u hlt hle => by omega), hcramer]
  rfl

/-- The iteration takes the locator in its first step, and its second step finds no discrepancy (R211). -/
theorem bmLocator_singleSyndromes (e : Int) :
    bmLocator (builtField m prim) (singleSyndromes (builtField m prim) e) = [1, alphaPow (builtField m prim) e] := by
  have hinvOne : gfInv (builtField m prim) 1 = 1 := by
    rw [← alphaPow_zero h, gfInv_alphaPow h, neg_zero]
  have hfirst : bmStep (builtField m prim) (singleSyndromes (builtField m prim) e) ⟨[1], [1], 0, 1, 1⟩ 0 =
      ⟨[1, alphaPow (builtField m prim) e], [1], 1, 1, alphaPow (builtField m prim) e⟩ := by
    have hdiscrepancy : bmDiscrepancy (builtField m prim) (singleSyndromes (builtField m prim) e) ⟨[1], [1], 0, 1, 1⟩ 0 =
      alphaPow (builtField m prim) e := gfAdd_zero_right _
    rw [bmStep_of_short hdiscrepancy (alphaPow_ne_zero h e) le_rfl, hinvOne, alphaPow_gfMul_one h,
      List.map_singleton, alphaPow_gfMul_one h]
    rfl
  have hdiscrepancy : bmDiscrepancy (builtField m prim) (singleSyndromes (builtField m prim) e)
      ⟨[1, alphaPow (builtField m prim) e], [1], 1, 1, alphaPow (builtField m prim) e⟩ 1 = 0 := by
    show gfAdd (alphaPow _ (2 * e)) (gfAdd 0 (gfMul _ (alphaPow _ e) (alphaPow _ e))) = 0
    rw [gfAdd_zero_left, gfMul_alphaPow h, ← two_mul, gfAdd_self]
  show (bmStep _ _ (bmStep _ _ _ 0) 1).C = _
  rw [hfirst, bmStep_of_eq_zero hdiscrepancy]

/-- The locator of one error has degree 1 (R131). -/
theorem polyDeg_singleLocator (e : Int) : polyDeg [1, alphaPow (builtField m prim) e] = 1 :=
  polyDeg_eq_iff (n := 1).2 ⟨alphaPow_ne_zero h e, fun _ hi => List.getD_eq_default _ _ hi⟩

/-- The value 1 + α^e α^f of the locator of one error (R181). -/
theorem polyEval_singleLocator (e f : Int) :
    polyEval (builtField m prim) [1, alphaPow (builtField m prim) e] (alphaPow (builtField m prim) f) =
      gfAdd 1 (alphaPow (builtField m prim) (e + f)) := by
  rw [polyEval_eq_gfSum_range]
  show gfSum [gfMul _ 1 (gfPow _ _ ((0 : Nat) : Int)), gfMul _ (alphaPow _ e) (gfPow _ _ ((1 : Nat) : Int))] = _
  rw [gfSum_cons, gfSum_cons, gfPow_alphaPow h, gfPow_alphaPow h, Nat.cast_zero, mul_zero, alphaPow_zero h,
    one_gfMul h h.one_lt, Nat.cast_one, mul_one, gfMul_alphaPow h, gfSum_eq_zero (List.forall_mem_nil _),
    gfAdd_zero_right]

/-- The search finds the one root of 1 + α^p x (R190). -/
theorem chien_singleLocator {p : Nat} (hp : p < 2 ^ m - 1) :
    chien (builtField m prim) [1, alphaPow (builtField m prim) p] = [p] := by
  have hroot : ∀ i : Nat, i < 2 ^ m - 1 → (1 = alphaPow (builtField m prim) ((p : Int) + -i) ↔ i = p) := fun i hi => by
    rw [← alphaPow_zero h, alphaPow_eq_iff h]
    refine ⟨fun hmod => ?_, fun hip => by rw [hip, add_neg_cancel]⟩
    have hmod' := hmod.add_right (i : Int)
    rw [zero_add, neg_add_cancel_right, Int.natCast_modEq_iff] at hmod'
    exact hmod'.eq_of_lt_of_lt hi hp
  have hmem : ∀ i, i ∈ chien (builtField m prim) [1, alphaPow (builtField m prim) p] ↔ i ∈ [p] := fun i => by
    rw [mem_chien_iff, polyEval_singleLocator h, gfAdd, Nat.xor_eq_zero_iff, List.mem_singleton]
    exact ⟨fun ⟨hi, hval⟩ => (hroot i hi).1 hval, fun hip => ⟨hip ▸ hp, (hroot i (hip ▸ hp)).2 hip⟩⟩
  have hnodup := (chien_pairwise (builtField m prim) [1, alphaPow (builtField m prim) p]).imp Nat.ne_of_lt
  exact List.perm_singleton.1 ((List.perm_ext_iff_of_nodup hnodup (List.nodup_singleton p)).2 hmem)

end

/-! ### Strategies 1 and 2 on a word with one error (R193, R212) -/

/-- Strategy 2 with a locator of a degree from 1 to t goes on to the search (R212). -/
theorem bchDecodeBM_of_locator {c : Codec} {r locator : List Nat} (hne : ¬ ∀ x ∈ syndromes c.field c.t r, x = 0)
    (hlocator : bmLocator c.field (syndromes c.field c.t r) = locator)
    (hdeg : ¬ (polyDeg locator = 0 ∨ polyDeg locator > c.t)) :
    bchDecodeBM c r = locateAndFlip c r locator (polyDeg locator) := by
  subst hlocator
  exact (if_neg hne).trans (if_neg hdeg)

section
variable {s : State} {K : Type} [CommRing K] {φ : Nat → K}

/-- The search for the locator of the error finds it, and the flip gives the word back (R193). -/
theorem RepresentsCodec.locateAndFlip_single (hc : RepresentsCodec s φ) (w : List Nat) {p : Nat} (hp : p < s.n.toNat) :
    locateAndFlip s.codec (flipBits w [p]) [1, alphaPow s.field p] 1 = ⟨msgOf s.codec w, w, 1, drCorrected⟩ := by
  have hpos : chien s.codec.field [1, alphaPow s.field p] = [p] := by
    rw [show s.codec.field = s.field from rfl, hc.field_eq]
    exact chien_singleLocator hc.accepted (hc.n_eq ▸ hp)
  rw [locateAndFlip_of_match (c := s.codec) (by rw [hpos]; rfl), hpos, flipBits_flipBits]

/-- With t = 1 the syndromes of a word with one error are those of its locator (R182). -/
theorem RepresentsCodec.syndromes_single (hc : RepresentsCodec s φ) (ht : s.t = 1) {w : List Nat}
    (hw : overField s.m.toNat w) (hzero : ∀ x ∈ syndromes s.field s.t.toNat w, x = 0) {p : Nat} (hp : p < w.length) :
    syndromes s.codec.field s.codec.t (flipBits w [p]) = singleSyndromes s.field p := by
  show syndromes s.field s.t.toNat (flipBits w [p]) = _
  rw [hc.syndromes_flipBits hw hzero hp, ht]
  show [alphaPow s.field ((1 : Nat) * p), alphaPow s.field ((2 : Nat) * p)] = _
  rw [Nat.cast_one, one_mul]
  rfl

/-- Strategy 1 with t = 1 corrects one error of a word whose syndromes are zero (R193, R195). -/
theorem RepresentsCodec.bchDecode_single (hc : RepresentsCodec s φ) (ht : s.t = 1) {w : List Nat}
    (hw : overField s.m.toNat w) (hlen : w.length = s.n.toNat) (hzero : ∀ x ∈ syndromes s.field s.t.toNat w, x = 0)
    {p : Nat} (hp : p < s.n.toNat) :
    bchDecode s.codec (flipBits w [p]) = ⟨msgOf s.codec w, w, 1, drCorrected⟩ := by
  have hsyn := hc.syndromes_single ht hw hzero (hlen ▸ hp)
  have hsolve : petersonSolve s.codec.field (singleSyndromes s.field p) s.codec.t = (1, [1, alphaPow s.field p]) := by
    rw [show s.codec.field = s.field from rfl, show s.codec.t = s.t.toNat from rfl, ht, hc.field_eq]
    exact petersonSolve_singleSyndromes hc.accepted p
  have hne := singleSyndromes_ne_zero hc.accepted p
  rw [← hc.field_eq, ← hsyn] at hne
  rw [bchDecode_of_solution hne (by rw [hsyn, hsolve]) (by decide), hc.locateAndFlip_single w hp]

/-- Strategy 2 does the same (R212, R218). -/
theorem RepresentsCodec.bchDecodeBM_single (hc : RepresentsCodec s φ) (ht : s.t = 1) {w : List Nat}
    (hw : overField s.m.toNat w) (hlen : w.length = s.n.toNat) (hzero : ∀ x ∈ syndromes s.field s.t.toNat w, x = 0)
    {p : Nat} (hp : p < s.n.toNat) :
    bchDecodeBM s.codec (flipBits w [p]) = ⟨msgOf s.codec w, w, 1, drCorrected⟩ := by
  have hsyn := hc.syndromes_single ht hw hzero (hlen ▸ hp)
  have hlocator : bmLocator s.codec.field (singleSyndromes s.field p) = [1, alphaPow s.field p] := by
    rw [show s.codec.field = s.field from rfl, hc.field_eq]
    exact bmLocator_singleSyndromes hc.accepted p
  have hdeg : polyDeg [1, alphaPow s.field p] = 1 := by
    rw [hc.field_eq]
    exact polyDeg_singleLocator hc.accepted p
  have hne := singleSyndromes_ne_zero hc.accepted p
  rw [← hc.field_eq, ← hsyn] at hne
  have hlegal : ¬ (polyDeg [1, alphaPow s.field p] = 0 ∨ polyDeg [1, alphaPow s.field p] > s.codec.t) := by
    rw [hdeg, show s.codec.t = s.t.toNat from rfl, ht]
    decide
  rw [bchDecodeBM_of_locator hne (by rw [hsyn, hlocator]) hlegal, hdeg, hc.locateAndFlip_single w hp]

end

end Sys2Proof.Machine
end

section
/-! SUPPORT. The cyclic-shift decode of a word with one error: the code is cyclic, so the remainder of a rotated word is
that of the rotated error, and the first rotation that brings the error into the parity positions shows it (R214 to
R216). -/

namespace Sys2Proof.Machine

open Polynomial

/-! ### Rotations (R214) -/

theorem rotR_eq_rotate (w : List Nat) : rotR w = w.rotate (w.length - 1) :=
  (List.rotate_eq_drop_append_take (Nat.sub_le _ _)).symm

theorem rotL_eq_rotate (w : List Nat) : rotL w = w.rotate 1 := by
  cases w with
  | nil => rfl
  | cons x w => exact (List.rotate_eq_drop_append_take (Nat.le_add_left 1 _)).symm

@[simp] theorem rotR_length (w : List Nat) : (rotR w).length = w.length := by
  rw [rotR_eq_rotate, List.length_rotate]

/-- A right rotation moves the last entry to index 0. -/
theorem rotR_append_singleton (u : List Nat) (c : Nat) : rotR (u ++ [c]) = c :: u := by
  simp [rotR]

theorem rotL_rotR (w : List Nat) : rotL (rotR w) = w := by
  rcases List.eq_nil_or_concat w with rfl | ⟨u, c, rfl⟩
  · rfl
  · rw [List.concat_eq_append, rotR_append_singleton]
    rfl

theorem iterate_rotL_iterate_rotR (j : Nat) (w : List Nat) : rotL^[j] (rotR^[j] w) = w :=
  (Function.LeftInverse.iterate rotL_rotR j) w

theorem iterate_rotR_length (j : Nat) (w : List Nat) : (rotR^[j] w).length = w.length := by
  induction j with
  | zero => rfl
  | succ j ih => rw [Function.iterate_succ_apply', rotR_length, ih]

/-- The sum of two words of one length, entry by entry. -/
theorem polyAdd_eq_zipWith {p q : List Nat} (h : p.length = q.length) : polyAdd p q = List.zipWith gfAdd p q := by
  induction p, q using polyAdd.induct with
  | case1 ys =>
    obtain rfl := List.eq_nil_of_length_eq_zero h.symm
    rfl
  | case2 xs hne => exact absurd (List.eq_nil_of_length_eq_zero h) hne
  | case3 x xs y ys ih => exact congrArg (gfAdd x y :: ·) (ih (Nat.succ.inj h))

theorem rotR_polyAdd {p q : List Nat} (h : p.length = q.length) :
    rotR (polyAdd p q) = polyAdd (rotR p) (rotR q) := by
  have hlen : (List.zipWith gfAdd p q).length = p.length := by rw [List.length_zipWith, ← h, min_self]
  rw [polyAdd_eq_zipWith h, polyAdd_eq_zipWith (by rw [rotR_length, rotR_length, h]), rotR_eq_rotate, rotR_eq_rotate,
    rotR_eq_rotate, hlen, ← h, List.zipWith_rotate_distrib _ _ _ _ h]

/-- The rotations of a sum of two words are the sums of their rotations. -/
theorem iterate_rotR_polyAdd {p q : List Nat} (h : p.length = q.length) (j : Nat) :
    rotR^[j] (polyAdd p q) = polyAdd (rotR^[j] p) (rotR^[j] q) := by
  induction j with
  | zero => rfl
  | succ j ih =>
    rw [Function.iterate_succ_apply', ih, rotR_polyAdd (by rw [iterate_rotR_length, iterate_rotR_length, h]),
      Function.iterate_succ_apply', Function.iterate_succ_apply']

/-- A right rotation moves the error up by one position, from the last one to position 0. -/
theorem rotR_unitWord {n p : Nat} (hp : p < n) : rotR (unitWord n p) = unitWord n ((p + 1) % n) := by
  rw [rotR_eq_rotate]
  refine List.ext_getElem (by simp) fun i hi _ => ?_
  rw [List.length_rotate, unitWord_length] at hi
  have hup : (p + 1) % n = if p + 1 = n then 0 else p + 1 := by
    split
    case isTrue h => rw [h, Nat.mod_self]
    case isFalse h => exact Nat.mod_eq_of_lt (by omega)
  have hdown : (i + (n - 1)) % n = if i = 0 then n - 1 else i - 1 := by
    split
    case isTrue h => rw [h, Nat.zero_add, Nat.mod_eq_of_lt (by omega)]
    case isFalse h => rw [show i + (n - 1) = i - 1 + n by omega, Nat.add_mod_right, Nat.mod_eq_of_lt (by omega)]
  rw [List.getElem_rotate, getElem_unitWord, getElem_unitWord, unitWord_length, hup, hdown]
  refine if_congr ?_ rfl rfl
  split_ifs <;> omega

theorem iterate_rotR_unitWord {n p : Nat} (hp : p < n) (j : Nat) :
    rotR^[j] (unitWord n p) = unitWord n ((p + j) % n) := by
  induction j with
  | zero => rw [Nat.add_zero, Nat.mod_eq_of_lt hp]; rfl
  | succ j ih =>
    rw [Function.iterate_succ_apply', ih, rotR_unitWord (Nat.mod_lt _ (by omega)), Nat.mod_add_mod, Nat.add_assoc]

/-! ### The code is cyclic -/

section
variable {m prim : Nat} {K : Type} [CommRing K] {φ : Nat → K}

/-- A product of factors for different powers of α divides what vanishes at each of them. -/
theorem Represents.rootPoly_dvd (hφ : Represents (builtField m prim) m φ) (h : accepted m prim) {c : List Nat} {P : K[X]}
    (hbound : ∀ i ∈ c, i < 2 ^ m - 1) (hnodup : c.Nodup)
    (hroots : ∀ i ∈ c, P.eval (φ (alphaPow (builtField m prim) i)) = 0) : rootPoly (builtField m prim) φ c ∣ P := by
  induction c with
  | nil => exact one_dvd P
  | cons i c ih =>
    obtain ⟨hi, hc⟩ := List.forall_mem_cons.1 hbound
    obtain ⟨hnot, hnodupRest⟩ := List.nodup_cons.1 hnodup
    obtain ⟨hroot, hrootsRest⟩ := List.forall_mem_cons.1 hroots
    rw [rootPoly_cons]
    exact (linear_isCoprime_rootPoly fun j hj => hφ.isUnit_alphaPow_sub h hi (hc j hj) fun hij => hnot (hij ▸ hj)).mul_dvd
      (dvd_iff_isRoot.2 hroot) (ih hc hnodupRest hrootsRest)

/-- Every power of α is an n-th root of 1 (R102). -/
theorem Represents.alphaPow_pow_order (hφ : Represents (builtField m prim) m φ) (h : accepted m prim) (i : Nat) :
    φ (alphaPow (builtField m prim) i) ^ (2 ^ m - 1) = 1 := by
  have hmod : (i : Int) * (2 ^ m - 1 : Nat) ≡ 0 [ZMOD (builtField m prim).n] :=
    Int.modEq_zero_iff_dvd.2 (dvd_mul_left _ _)
  rw [← hφ.alphaPow_mul_natCast h, alphaPow_congr hmod, alphaPow_zero h, hφ.one h]

end

theorem listPoly_append_singleton {K : Type} [CommRing K] (φ : Nat → K) (u : List Nat) (c : Nat) :
    listPoly φ (u ++ [c]) = listPoly φ u + C (φ c) * X ^ u.length := by
  induction u with
  | nil => rw [List.nil_append, listPoly, listPoly, listPoly, List.length_nil]; ring
  | cons x u ih => rw [List.cons_append, listPoly, ih, listPoly, List.length_cons]; ring

namespace RepresentsCodec

variable {s : State} {K : Type} [CommRing K] {φ : Nat → K}

/-- The generator divides x^n - 1 (R156). -/
theorem dvd_X_pow_sub_one (hc : RepresentsCodec s φ) : listPoly φ (genSeq s) ∣ X ^ s.n.toNat - 1 := by
  have hlegal := hc.legal_t
  refine hc.generates.associated.dvd.trans (hc.represents.rootPoly_dvd hc.accepted (fun i hi => ?_)
    (cosets_flatten_nodup hc.accepted.pos hc.n_eq hlegal) fun i _ => ?_)
  · exact hc.n_eq ▸ (mem_cosets_flatten_bounds hc.accepted.pos hc.n_eq hlegal hi).2
  · rw [eval_sub, eval_pow, eval_X, eval_one, hc.n_eq, hc.represents.alphaPow_pow_order hc.accepted, sub_self]

/-- The code is cyclic: a rotation of a multiple of the generator is one (R214). -/
theorem dvd_rotR (hc : RepresentsCodec s φ) {w : List Nat} (hlen : w.length = s.n.toNat)
    (hdvd : listPoly φ (genSeq s) ∣ listPoly φ w) : listPoly φ (genSeq s) ∣ listPoly φ (rotR w) := by
  rcases List.eq_nil_or_concat w with rfl | ⟨u, c, rfl⟩
  · exact hdvd
  rw [List.concat_eq_append] at hdvd hlen ⊢
  rw [List.length_append, List.length_singleton] at hlen
  have hrot : listPoly φ (c :: u) = X * listPoly φ (u ++ [c]) - C (φ c) * (X ^ s.n.toNat - 1) := by
    rw [listPoly_append_singleton, listPoly, ← hlen]
    ring
  rw [rotR_append_singleton, hrot]
  exact dvd_sub (hdvd.mul_left _) (hc.dvd_X_pow_sub_one.mul_left _)

theorem dvd_iterate_rotR (hc : RepresentsCodec s φ) {w : List Nat} (hlen : w.length = s.n.toNat)
    (hdvd : listPoly φ (genSeq s) ∣ listPoly φ w) (j : Nat) : listPoly φ (genSeq s) ∣ listPoly φ (rotR^[j] w) := by
  induction j with
  | zero => exact hdvd
  | succ j ih =>
    rw [Function.iterate_succ_apply']
    exact hc.dvd_rotR (by rw [iterate_rotR_length, hlen]) ih

end RepresentsCodec

theorem overField_iterate_rotR {m : Nat} {w : List Nat} (hw : overField m w) (j : Nat) : overField m (rotR^[j] w) := by
  induction j with
  | zero => exact hw
  | succ j ih =>
    rw [Function.iterate_succ_apply', rotR_eq_rotate]
    exact fun x hx => ih x (List.mem_rotate.1 hx)

/-! ### The remainder of one error (R215) -/

namespace RepresentsCodec

variable {s : State} {K : Type} [CommRing K] {φ : Nat → K}

/-- The remainder of a rotated word of the code with one error is that of the error where the rotation takes it. -/
theorem remainderOf_iterate_rotR_flipBits (hc : RepresentsCodec s φ) {w : List Nat} (hw : overField s.m.toNat w)
    (hlen : w.length = s.n.toNat) (hdvd : listPoly φ (genSeq s) ∣ listPoly φ w) {p : Nat} (hp : p < s.n.toNat) (j : Nat) :
    remainderOf s (rotR^[j] (flipBits w [p])) = remainderOf s (unitWord s.n.toNat ((p + j) % s.n.toNat)) := by
  have hrot := overField_iterate_rotR hw j
  have hzero := hc.remainderOf_eq_zero_of_dvd hrot (hc.dvd_iterate_rotR hlen hdvd j)
  have hunit := overField_unitWord hc.accepted.one_lt s.n.toNat ((p + j) % s.n.toNat)
  rw [flipBits_singleton, hlen, iterate_rotR_polyAdd (by rw [hlen, unitWord_length]), iterate_rotR_unitWord hp,
    hc.remainderOf_polyAdd hrot hunit]
  refine polyEq.eq_of_length (fun i => ?_) (by rw [polyAdd_length, remainderOf_length, remainderOf_length, max_self])
  have hzeroDeg : polyDeg (remainderOf s (rotR^[j] w)) < (0 : Nat) := polyDeg_neg_iff.2 hzero
  rw [getD_polyAdd, polyDeg_lt_iff.1 hzeroDeg i (Nat.zero_le i), gfAdd_zero_left]

/-- An error in the parity positions is its own remainder (R215). -/
theorem remainderOf_unitWord_of_lt (hc : RepresentsCodec s φ) {q : Nat} (hq : q < s.n.toNat - s.k.toNat) :
    remainderOf s (unitWord s.n.toNat q) = unitWord (s.n.toNat - s.k.toNat) q := by
  have hone := hc.accepted.one_lt
  rw [hc.remainderOf_eq_iff (overField_unitWord hone _ _) (overField_unitWord hone _ _) (unitWord_length _ _),
    hc.represents.listPoly_unitWord hc.accepted (by omega), hc.represents.listPoly_unitWord hc.accepted hq,
    hc.represents.poly_add_self]
  exact dvd_zero _

end RepresentsCodec

theorem count_one_unitWord {n p : Nat} (hp : p < n) : (unitWord n p).count 1 = 1 := by
  simp [unitWord, List.count_set, List.count_replicate, hp]

/-! ### The search for a light remainder (R216) -/

/-- The search passes over the heavy remainders and adds the first light one (R216). -/
theorem meggittLoop_of_light {s : State} (hshape : genShape s) (r : List Nat) {fuel shifts j : Nat} {w : List Nat}
    (hj : j < fuel) (hheavy : ∀ i < j, s.t.toNat < (remainderOf s (rotR^[i] w)).count 1)
    (hlight : (remainderOf s (rotR^[j] w)).count 1 ≤ s.t.toNat)
    (hne : (remainderOf s (rotR^[j] w)).count 1 ≠ 0) {u : List Nat}
    (hu : u = rotL^[shifts + j] (addAt 0 (rotR^[j] w) (remainderOf s (rotR^[j] w)))) :
    meggittLoop s.codec r fuel shifts w =
      .ok ⟨msgOf s.codec u, u, (remainderOf s (rotR^[j] w)).count 1, drCorrected⟩ := by
  induction fuel generalizing shifts j w with
  | zero => omega
  | succ fuel ih =>
    rw [meggittLoop, remSyndrome_eq_remainderOf hshape]
    cases j with
    | zero =>
      subst hu
      exact (if_neg fun hclean => hne hclean.2).trans (if_pos hlight)
    | succ j =>
      have hfirst : s.t.toNat < (remainderOf s w).count 1 := hheavy 0 (by omega)
      refine (if_neg fun hclean => ?_).trans ((if_neg (not_le.2 hfirst)).trans ?_)
      · omega
      · exact ih (by omega) (fun i hi => hheavy (i + 1) (by omega)) hlight hne (by rw [hu, Nat.add_right_comm]; rfl)

theorem addAt_zero_eq_polyAdd {w ys : List Nat} (h : ys.length ≤ w.length) : addAt 0 w ys = polyAdd w ys := by
  induction w generalizing ys with
  | nil =>
    obtain rfl := List.eq_nil_of_length_eq_zero (Nat.le_zero.1 h)
    rfl
  | cons x w ih =>
    cases ys with
    | nil => rfl
    | cons y ys => exact congrArg (gfAdd x y :: ·) (ih (Nat.le_of_succ_le_succ h))

/-- The light remainder takes the error away. -/
theorem addAt_polyAdd_unitWord {w : List Nat} {n r q : Nat} (hlen : w.length = n) (hr : r ≤ n) (hq : q < r) :
    addAt 0 (polyAdd w (unitWord n q)) (unitWord r q) = w := by
  have hsum : (polyAdd w (unitWord n q)).length = n := by rw [polyAdd_length, hlen, unitWord_length, max_self]
  rw [addAt_zero_eq_polyAdd (by rw [hsum, unitWord_length]; exact hr)]
  refine polyEq.eq_of_length (fun i => ?_) (by rw [polyAdd_length, hsum, unitWord_length, hlen, max_eq_left hr])
  rw [getD_polyAdd, getD_polyAdd, getD_unitWord hq, getD_unitWord (hq.trans_le hr), gfAdd, gfAdd, Nat.xor_assoc,
    Nat.xor_self, Nat.xor_zero]

/-- Strategy 3 corrects one error of a word of the code, when every error above the parity leaves a heavy remainder
(R216). -/
theorem RepresentsCodec.bchDecodeMG_single {s : State} {K : Type} [CommRing K] {φ : Nat → K} (hc : RepresentsCodec s φ)
    (hshape : genShape s) (ht : 1 ≤ s.t.toNat) {w : List Nat} (hw : overField s.m.toNat w)
    (hlen : w.length = s.n.toNat) (hdvd : listPoly φ (genSeq s) ∣ listPoly φ w)
    (hheavy : ∀ q < s.n.toNat, s.n.toNat - s.k.toNat ≤ q → s.t.toNat < (remainderOf s (unitWord s.n.toNat q)).count 1)
    {p : Nat} (hp : p < s.n.toNat) :
    bchDecodeMG s.codec (flipBits w [p]) = .ok ⟨msgOf s.codec w, w, 1, drCorrected⟩ := by
  have ⟨_, _, hkn⟩ := hshape
  obtain ⟨j, hj, hq, hbefore⟩ : ∃ j ≤ s.n.toNat, (p + j) % s.n.toNat < s.n.toNat - s.k.toNat ∧
      ∀ i < j, s.n.toNat - s.k.toNat ≤ (p + i) % s.n.toNat := by
    by_cases hparity : p < s.n.toNat - s.k.toNat
    · exact ⟨0, Nat.zero_le _, by rwa [Nat.add_zero, Nat.mod_eq_of_lt hp], fun i hi => by omega⟩
    · refine ⟨s.n.toNat - p, Nat.sub_le _ _, ?_, fun i hi => ?_⟩
      · rw [show p + (s.n.toNat - p) = s.n.toNat by omega, Nat.mod_self]
        omega
      · rw [Nat.mod_eq_of_lt (by omega)]
        omega
  have hrem := hc.remainderOf_iterate_rotR_flipBits hw hlen hdvd hp
  have hremLight := (hrem j).trans (hc.remainderOf_unitWord_of_lt hq)
  have hcount : (remainderOf s (rotR^[j] (flipBits w [p]))).count 1 = 1 := by rw [hremLight, count_one_unitWord hq]
  have hback : w = rotL^[0 + j] (addAt 0 (rotR^[j] (flipBits w [p])) (remainderOf s (rotR^[j] (flipBits w [p])))) := by
    rw [hremLight, flipBits_singleton, hlen, iterate_rotR_polyAdd (by rw [hlen, unitWord_length]),
      iterate_rotR_unitWord hp, addAt_polyAdd_unitWord (by rw [iterate_rotR_length, hlen]) (Nat.sub_le _ _) hq,
      Nat.zero_add, iterate_rotL_iterate_rotR]
  have hloop := meggittLoop_of_light hshape (flipBits w [p]) (fuel := s.n.toNat + 1) (shifts := 0) (by omega)
    (fun i hi => by rw [hrem i]; exact hheavy _ (Nat.mod_lt _ (by omega)) (hbefore i hi))
    (by rw [hcount]; exact ht) (by rw [hcount]; exact one_ne_zero) hback
  rw [hcount] at hloop
  exact hloop

/-! ### BCH(7,4,1) -/

/-- The primitive polynomials of degree 3 (R102). -/
theorem accepted_three {prim : Nat} (h : accepted 3 prim) : prim = 11 ∨ prim = 13 := by
  have hshape := h.shape
  have hbounds : 8 ≤ prim ∧ prim < 16 := by
    rw [Nat.shiftRight_eq_div_pow] at hshape
    omega
  have hsearch : ∀ q < 16, 8 ≤ q → orderIsN 3 q → q = 11 ∨ q = 13 := by
    unfold orderIsN
    decide
  exact hsearch prim hbounds.2 hbounds.1 h.order

/-- The generator of BCH(7,4,1) over either field has degree 3, and one error above the parity leaves a remainder of
weight 2 or 3 (R156, R215). -/
theorem exists_generator_three {prim : Nat} (h : accepted 3 prim) : ∃ g, genPoly (builtField 3 prim) 512 1 = .ok g ∧
    polyDeg g = 3 ∧ ∀ q < 7, 3 ≤ q → 1 < (divideBy (builtField 3 prim) (unitWord 7 q) g 3).2.count 1 := by
  obtain rfl | rfl := accepted_three h
  · exact ⟨[1, 1, 0, 1], by decide +kernel⟩
  · exact ⟨[1, 0, 1, 1], by decide +kernel⟩

/-- In BCH(7,4,1) every error above the parity leaves a heavy remainder (R216, R218). -/
theorem Inv.sevenFour_heavy {s : State} (hinv : Inv s) (hs : s.state = 2) (hm : s.m = 3) (ht : s.t = 1) :
    s.n.toNat = 7 ∧ s.k.toNat = 4 ∧ ∀ q < s.n.toNat, s.n.toNat - s.k.toNat ≤ q →
      s.t.toNat < (remainderOf s (unitWord s.n.toNat q)).count 1 := by
  have hready : 1 ≤ s.state.toNat := by rw [hs]; decide
  obtain ⟨hacc, hn, -⟩ := hinv.field_built hready
  obtain ⟨-, hfield⟩ := hinv.field_eq hready
  obtain ⟨g, hg, -, hseq, hdeg, hk1, hkn⟩ := hinv.genSeq_eq hs
  rw [hm] at hacc hn hfield
  replace hn : s.n.toNat = 7 := hn
  replace ht : s.t.toNat = 1 := by rw [ht]; rfl
  obtain ⟨g', hg', hdeg', hheavy⟩ := exists_generator_three hacc
  rw [hfield, ht] at hg
  obtain rfl : g = g' := Except.ok.inj (hg.symm.trans hg')
  rw [hseq] at hdeg
  have hk : s.k.toNat = 4 := by omega
  refine ⟨hn, hk, fun q hq hparity => ?_⟩
  rw [hn] at hq
  rw [hn, hk] at hparity
  rw [remainderOf, hfield, hseq, hn, hk, ht]
  exact hheavy q hq hparity

/-- Settles O53: strategies 1 and 2 find the error of a zero-syndrome word in every codec with t = 1, and strategy 3
where every error above the parity leaves a heavy remainder, as it does in BCH(7,4,1). -/
theorem sevenFourCorrectsSingleErrors : Obligations.SevenFourCorrectsSingleErrors := by
  unfold Obligations.SevenFourCorrectsSingleErrors
  intro s msg p hinv hs hm ht hmsg hbits hp
  obtain ⟨K, _, φ, hc⟩ := hinv.exists_representsCodec hs
  obtain ⟨-, -, -, -, hshape⟩ := hinv.genSeq_eq hs
  obtain ⟨hn, hk, hheavy⟩ := hinv.sevenFour_heavy hs hm ht
  have hmsgOver := hc.overField_of_bits hbits
  have hcw := hc.overField_codeword hmsgOver
  have hdvd := hc.dvd_codeword hmsgOver
  have hsyn := hc.syndromes_eq_zero_of_dvd hcw hdvd
  have hlen := codeword_length hshape (hmsg.trans hk.symm)
  have hpn : p < s.n.toNat := hn ▸ hp
  have hback := msgOf_codeword s msg
  refine ⟨codeword s msg, bchEncode_eq_codeword hshape msg, ?_, ?_, ?_⟩
  · rw [hc.bchDecode_single ht hcw hlen hsyn hpn, hback]
    rfl
  · rw [hc.bchDecodeBM_single ht hcw hlen hsyn hpn, hback]
    rfl
  · rw [hc.bchDecodeMG_single hshape (by rw [ht]; decide) hcw hlen hdvd hheavy hpn, hback]
    rfl

end Sys2Proof.Machine
end

section
/-! SUPPORT. `DECBM`: the checks that it shares with `DECMG`, and the terminal states of strategy 2 (R212, R213). -/

namespace Sys2Proof.Machine

/-! ### The checks of the two commands (R170, R303) -/

/-- This hardware has every unit (R29, R37). -/
theorem unitPresent_seven (i : Instr) : i.unitPresent 7#3 = true := by
  cases i <;> rfl

theorem Inv.requireLegal_eq_ok {s : State} (hinv : Inv s) {i : Instr} (h : i.distinctDests = true) :
    requireLegal s i = .ok () := by
  obtain ⟨-, hfeat, -⟩ := hinv.constants
  refine ensure_eq_ok.2 ?_
  rw [hfeat, WellFormed, unitPresent_seven, h, Bool.and_self]

/-- In a configured codec a command with different destinations goes on with the entries of its written source (R24,
R31, R23). -/
theorem Inv.requireLegal_readV_bind {s : State} (hinv : Inv s) {i : Instr} (hdest : i.distinctDests = true)
    (hs : s.state = 2) {va : VReg} {xs : List Byte} (hx : holdsV s va xs) (f : List Byte → Except Err State) :
    (requireLegal s i >>= fun _ => requireState s 2 >>= fun _ => readV s va >>= f) = f xs := by
  rw [hinv.requireLegal_eq_ok hdest]
  exact requireState_readV_bind hs hx f

section
variable {s : State} {len : Nat} {e : Err} {xs : List Byte} {f : List Nat → Except Err State}

/-- A command whose bit vector has the wrong length (R170). -/
theorem finish_bitOperand_of_length_ne (h : xs.length ≠ len) :
    finish s (bitOperand len e xs >>= f) = .next (raise e s) := by
  rw [bitOperand_of_length_ne h]
  rfl

/-- A command whose vector of the right length has an entry that is no bit (R170). -/
theorem finish_bitOperand_of_not_allBits (hlen : xs.length = len) (h : ¬ allBits xs) :
    finish s (bitOperand len e xs >>= f) = .next (raise .elementOutOfRange s) := by
  rw [bitOperand_of_not_allBits hlen h]
  rfl

/-- A command goes on with the entries of a bit vector of the right length (R170). -/
theorem finish_bitOperand_of_allBits (hlen : xs.length = len) (h : allBits xs) :
    finish s (bitOperand len e xs >>= f) = finish s (f (elems xs)) := by
  rw [bitOperand_of_allBits hlen h]
  rfl

end

/-- A decode that answers the received word writes it back (R192, R194). -/
theorem Inv.finish_putDecoded_received {s : State} (hinv : Inv s) {vm vc : VReg} {sd : SReg} {xs : List Byte}
    (count : Int) (reason : BitVec 8) (hlen : xs.length = s.n.toNat) :
    finish s (putDecoded s vm vc sd ⟨msgOf s.codec (elems xs), elems xs, count, reason⟩) =
      .next (decodedTo s vm vc sd (messagePart s xs) xs count reason) := by
  have hback : toBytes (elems xs) = xs := map_ofNat_elems xs
  rw [hinv.finish_putDecoded_of_length count reason ((elems_length xs).trans hlen), hback]

/-! ### The terminal states of strategy 2 (R212) -/

/-- Strategy 2 rejects a locator whose degree is 0 or above t (R212). -/
theorem bchDecodeBM_of_no_locator {c : Codec} {r locator : List Nat} (hne : ¬ ∀ x ∈ syndromes c.field c.t r, x = 0)
    (hlocator : bmLocator c.field (syndromes c.field c.t r) = locator)
    (hdeg : polyDeg locator = 0 ∨ polyDeg locator > c.t) : bchDecodeBM c r = rejected c r drNoSolution := by
  subst hlocator
  exact (if_neg hne).trans (if_pos hdeg)

/-- `DECBM` with a written operand goes on from the check of the word (R213). -/
theorem Inv.exec_decbm_of_holds {s : State} (hinv : Inv s) {vm vc : VReg} {sd : SReg} {va : VReg} {xs : List Byte}
    (hne : vm ≠ vc) (hs : s.state = 2) (hx : holdsV s va xs) : exec (.decbm vm vc sd va) s =
    finish s (bitOperand s.n.toNat .wrongCodewordLength xs >>= fun r =>
      putDecoded s vm vc sd (bchDecodeBM s.codec r)) := by
  have hdest : (Instr.decbm vm vc sd va).distinctDests = true := by
    simp [Instr.distinctDests, Instr.scalarDests, Instr.vectorDests, hne]
  exact congrArg (finish s) (hinv.requireLegal_readV_bind hdest hs hx _)

/-- Settles O51: each description of the syndromes, the locator and its roots is that of one end of the decode. -/
theorem decbmReachesItsTerminalStates : Obligations.DecbmReachesItsTerminalStates := by
  unfold Obligations.DecbmReachesItsTerminalStates
  rintro vm vc sd va s xs S C pos hinv hx hs hvne rfl hlocator rfl
  rw [hinv.exec_decbm_of_holds hvne hs hx]
  refine ⟨finish_bitOperand_of_length_ne, finish_bitOperand_of_not_allBits, fun hlen hbits => ?_⟩
  rw [finish_bitOperand_of_allBits hlen hbits]
  have hnonzero : (∃ x ∈ syndromes s.field s.t.toNat (elems xs), x ≠ 0) →
      ¬ ∀ x ∈ syndromes s.codec.field s.codec.t (elems xs), x = 0 := fun ⟨x, hmem, hx0⟩ hall => hx0 (hall x hmem)
  refine ⟨fun hzero => ?clean, fun hne hdeg => ?noLocator, fun hne hdeg hcount => ?mismatch,
    fun hne hdeg hcount word hword => ?corrected⟩
  case clean =>
    rw [bchDecodeBM_of_syndromes_zero (c := s.codec) hzero]
    exact hinv.finish_putDecoded_received _ _ hlen
  case noLocator =>
    rw [bchDecodeBM_of_no_locator (hnonzero hne) hlocator.symm hdeg]
    exact hinv.finish_putDecoded_received _ _ hlen
  case mismatch =>
    rw [bchDecodeBM_of_locator (hnonzero hne) hlocator.symm hdeg, locateAndFlip_of_mismatch (c := s.codec) hcount]
    exact hinv.finish_putDecoded_received _ _ hlen
  case corrected =>
    rw [bchDecodeBM_of_locator (hnonzero hne) hlocator.symm hdeg, locateAndFlip_of_match (c := s.codec) hcount,
      hinv.finish_putDecoded_of_length _ _ (by rw [flipBits_length, elems_length, hlen]), toBytes_flipBits_elems, hword]
    rfl

end Sys2Proof.Machine
end

section
/-! SUPPORT. `DECMG`: the passes of strategy 3 up to the first light remainder, and what the command writes (R214 to
R217). -/

namespace Sys2Proof.Machine

/-! ### The passes of the search (R216) -/

section
variable {s : State} (hshape : genShape s) {r w : List Nat} {fuel shifts j : Nat}

include hshape

/-- A pass over a heavy remainder rotates the word once more (R216). -/
theorem meggittLoop_succ_of_heavy (hheavy : s.t.toNat < (remainderOf s w).count 1) :
    meggittLoop s.codec r (fuel + 1) shifts w = meggittLoop s.codec r fuel (shifts + 1) (rotR w) := by
  rw [meggittLoop, remSyndrome_eq_remainderOf hshape]
  exact (if_neg fun hclean => by omega).trans (if_neg (not_le.2 hheavy))

/-- The search passes over the heavy remainders (R216). -/
theorem meggittLoop_add_of_heavy (hheavy : ∀ i < j, s.t.toNat < (remainderOf s (rotR^[i] w)).count 1) :
    meggittLoop s.codec r (fuel + j) shifts w = meggittLoop s.codec r fuel (shifts + j) (rotR^[j] w) := by
  induction j generalizing shifts w with
  | zero => rfl
  | succ j ih =>
    rw [← Nat.add_assoc, meggittLoop_succ_of_heavy hshape (w := w) (hheavy 0 (Nat.succ_pos j)),
      ih fun i hi => hheavy (i + 1) (Nat.succ_lt_succ hi), Nat.add_right_comm, Nat.add_assoc]
    rfl

/-- A pass over a light remainder that does not end the search as clean adds it to the word, and the word is rotated
back (R216). -/
theorem meggittLoop_succ_of_light (hdirty : ¬ (shifts = 0 ∧ (remainderOf s w).count 1 = 0))
    (hlight : (remainderOf s w).count 1 ≤ s.t.toNat) {u : List Nat}
    (hu : rotL^[shifts] (addAt 0 w (remainderOf s w)) = u) :
    meggittLoop s.codec r (fuel + 1) shifts w =
      .ok ⟨msgOf s.codec u, u, (remainderOf s w).count 1, drCorrected⟩ := by
  subst hu
  rw [meggittLoop, remSyndrome_eq_remainderOf hshape]
  exact (if_neg hdirty).trans (if_pos hlight)

/-! ### The terminal states of strategy 3 (R216) -/

theorem bchDecodeMG_of_clean (hclean : (remainderOf s r).count 1 = 0) :
    bchDecodeMG s.codec r = .ok ⟨msgOf s.codec r, r, 0, drClean⟩ := by
  rw [bchDecodeMG, meggittLoop, remSyndrome_eq_remainderOf hshape]
  exact if_pos ⟨rfl, hclean⟩

theorem bchDecodeMG_of_all_heavy (hheavy : ∀ j ≤ s.n.toNat, s.t.toNat < (remainderOf s (rotR^[j] r)).count 1) :
    bchDecodeMG s.codec r = .ok (rejected s.codec r drShiftsExhausted) := by
  have hpasses := meggittLoop_add_of_heavy hshape (r := r) (w := r) (fuel := 0) (shifts := 0) (j := s.n.toNat + 1)
    fun i hi => hheavy i (Nat.le_of_lt_succ hi)
  rw [Nat.zero_add] at hpasses
  exact hpasses

/-- Strategy 3 takes the first light remainder, which is not that of a clean word (R216). -/
theorem bchDecodeMG_of_first_light (hdirty : (remainderOf s r).count 1 ≠ 0) (hj : j ≤ s.n.toNat)
    (hheavy : ∀ i < j, s.t.toNat < (remainderOf s (rotR^[i] r)).count 1)
    (hlight : (remainderOf s (rotR^[j] r)).count 1 ≤ s.t.toNat) {u : List Nat}
    (hu : rotL^[j] (addAt 0 (rotR^[j] r) (remainderOf s (rotR^[j] r))) = u) :
    bchDecodeMG s.codec r = .ok ⟨msgOf s.codec u, u, (remainderOf s (rotR^[j] r)).count 1, drCorrected⟩ := by
  have hpasses := meggittLoop_add_of_heavy hshape (r := r) (fuel := s.n.toNat - j + 1) (shifts := 0) hheavy
  rw [Nat.zero_add, show s.n.toNat - j + 1 + j = s.n.toNat + 1 by omega] at hpasses
  refine hpasses.trans (meggittLoop_succ_of_light hshape ?_ hlight hu)
  rintro ⟨rfl, hclean⟩
  exact hdirty hclean

end

/-! ### The corrected word (R214, R216) -/

theorem addAt_zero_nil (w : List Nat) : addAt 0 w [] = w := by
  cases w <;> rfl

/-- The sum from index 0 on, entry by entry; what is missing at the end of the addend counts as 0. -/
theorem addAt_zero_eq_mapIdx (w ys : List Nat) : addAt 0 w ys = w.mapIdx fun i x => gfAdd x (ys.getD i 0) := by
  induction w generalizing ys with
  | nil => cases ys <;> rfl
  | cons x w ih =>
    rw [List.mapIdx_cons]
    cases ys with
    | nil => simpa [addAt_zero_nil] using ih []
    | cons y ys => exact congrArg (gfAdd x y :: ·) (ih ys)

theorem iterate_rotL_length (j : Nat) (w : List Nat) : (rotL^[j] w).length = w.length := by
  induction j with
  | zero => rfl
  | succ j ih => rw [Function.iterate_succ_apply', rotL_eq_rotate, List.length_rotate, ih]

/-! ### The command (R217) -/

/-- `DECMG` with a written operand goes on from the check of the word (R217). -/
theorem Inv.exec_decmg_of_holds {s : State} (hinv : Inv s) {vm vc : VReg} {sd : SReg} {va : VReg} {xs : List Byte}
    (hne : vm ≠ vc) (hs : s.state = 2) (hx : holdsV s va xs) : exec (.decmg vm vc sd va) s =
    finish s (bitOperand s.n.toNat .wrongCodewordLength xs >>= fun r =>
      bchDecodeMG s.codec r >>= putDecoded s vm vc sd) := by
  have hdest : (Instr.decmg vm vc sd va).distinctDests = true := by
    simp [Instr.distinctDests, Instr.scalarDests, Instr.vectorDests, hne]
  exact congrArg (finish s) (hinv.requireLegal_readV_bind hdest hs hx _)

/-- Settles O52: the remainders of the rotations decide after how many passes, and how, the search ends. -/
theorem decmgTakesTheFirstLightRemainder : Obligations.DecmgTakesTheFirstLightRemainder := by
  unfold Obligations.DecmgTakesTheFirstLightRemainder
  intro vm vc sd va s xs rem hinv hshape hx hs hvne hrem
  obtain rfl : rem = fun j => remainderOf s (rotR^[j] (elems xs)) := funext hrem
  rw [hinv.exec_decmg_of_holds hvne hs hx]
  refine ⟨finish_bitOperand_of_length_ne, finish_bitOperand_of_not_allBits, fun hlen hbits => ?_⟩
  rw [finish_bitOperand_of_allBits hlen hbits]
  refine ⟨fun hclean => ?clean, fun _ hheavy => ?exhausted, fun hdirty j hj hheavy hlight word hword => ?corrected⟩
  case clean =>
    rw [bchDecodeMG_of_clean hshape (r := elems xs) hclean]
    exact hinv.finish_putDecoded_received _ _ hlen
  case exhausted =>
    rw [bchDecodeMG_of_all_heavy hshape (r := elems xs) hheavy]
    exact hinv.finish_putDecoded_received _ _ hlen
  case corrected =>
    rw [bchDecodeMG_of_first_light hshape (r := elems xs) hdirty hj hheavy hlight
      (congrArg (rotL^[j]) (addAt_zero_eq_mapIdx (rotR^[j] (elems xs)) _)), hword]
    refine hinv.finish_putDecoded_of_length _ _ ?_
    rw [iterate_rotL_length, List.length_mapIdx, iterate_rotR_length, elems_length, hlen]

end Sys2Proof.Machine
end

section
/-! SUPPORT. The arithmetic of GF(P) is that of `ZMod P`, and a vector of coefficients is a polynomial over it (R231,
R232). -/

namespace Sys2Proof.Machine

open Polynomial

/-! ### Evaluation as a plain sum (R232) -/

theorem fSum_eq_sum_mod (P : Nat) (xs : List Nat) : fSum P xs = xs.sum % P := by
  induction xs using List.reverseRecOn with
  | nil => exact (Nat.zero_mod P).symm
  | append_singleton xs x ih =>
    have hstep : fSum P (xs ++ [x]) = fAdd P (fSum P xs) x := List.foldl_append
    rw [hstep, ih, fAdd, List.sum_append, List.sum_singleton, Nat.mod_add_mod]

/-- The sum that `rsEval` reduces term by term may be reduced once, at the end. -/
theorem rsEval_eq_sum_mod (P : Nat) (c : List Nat) (x : Nat) :
    rsEval P c x = (c.mapIdx fun j e => e * x ^ j).sum % P := by
  rw [rsEval, fSum_eq_sum_mod, List.mapIdx_eq_zipIdx_map, List.sum_nat_mod, List.sum_nat_mod (c.zipIdx.map _),
    List.map_map, List.map_map]
  simp [Function.comp_def, fMul]

theorem sum_mapIdx_cons (e : Nat) (c : List Nat) (x : Nat) :
    ((e :: c).mapIdx fun j e => e * x ^ j).sum = e + x * (c.mapIdx fun j e => e * x ^ j).sum := by
  rw [List.mapIdx_cons, List.sum_cons, pow_zero, mul_one, List.mapIdx_eq_zipIdx_map, List.mapIdx_eq_zipIdx_map,
    ← List.sum_map_mul_left]
  simp only [pow_succ, mul_left_comm x, mul_comm x]

section
variable {P : Nat}

theorem rsEval_lt (hP : 0 < P) (c : List Nat) (x : Nat) : rsEval P c x < P := by
  rw [rsEval_eq_sum_mod]
  exact Nat.mod_lt _ hP

/-! ### Verification (R236) -/

theorem rsVerify_iff_zip {xs ys c : List Nat} :
    rsVerify P xs ys c = true ↔ ∀ p ∈ xs.zip ys, rsEval P c p.1 = p.2 := by
  simp only [rsVerify, List.all_eq_true, decide_eq_true_eq]

theorem rsVerify_iff_getD {xs ys c : List Nat} (h : xs.length = ys.length) :
    rsVerify P xs ys c = true ↔ ∀ i < xs.length, rsEval P c (xs.getD i 0) = ys.getD i 0 := by
  rw [rsVerify_iff_zip, List.forall_mem_iff_getElem]
  refine ⟨fun hfit i hi => ?_, fun hfit i hi => ?_⟩
  · have := hfit i (by rw [List.length_zip]; omega)
    rwa [List.getElem_zip, ← List.getD_eq_getElem _ 0, ← List.getD_eq_getElem _ 0] at this
  · rw [List.length_zip] at hi
    rw [List.getElem_zip, ← List.getD_eq_getElem _ 0, ← List.getD_eq_getElem _ 0]
    exact hfit i (by omega)

/-! ### The polynomial of a vector of coefficients -/

/-- The polynomial over GF(P) of a vector of coefficients, index = degree (R232). -/
noncomputable def modPoly (P : Nat) (c : List Nat) : (ZMod P)[X] := listPoly (fun a : Nat => (a : ZMod P)) c

theorem modPoly_cons (e : Nat) (c : List Nat) : modPoly P (e :: c) = C (e : ZMod P) + X * modPoly P c := rfl

theorem coeff_modPoly (c : List Nat) (i : Nat) : (modPoly P c).coeff i = (c.getD i 0 : ZMod P) := by
  induction c generalizing i with
  | nil => simp [modPoly, listPoly]
  | cons e c ih =>
    cases i with
    | zero => simp [modPoly_cons]
    | succ i => simpa [modPoly_cons, coeff_C_succ] using ih i

theorem eval_modPoly (c : List Nat) (x : Nat) : (modPoly P c).eval (x : ZMod P) = (rsEval P c x : ZMod P) := by
  rw [rsEval_eq_sum_mod, ZMod.natCast_mod]
  induction c with
  | nil => simp [modPoly, listPoly]
  | cons e c ih =>
    rw [sum_mapIdx_cons, modPoly_cons, eval_add, eval_C, eval_mul, eval_X, ih, Nat.cast_add, Nat.cast_mul]

theorem degree_modPoly_lt (c : List Nat) : (modPoly P c).degree < c.length :=
  (degree_lt_iff_coeff_zero _ _).2 fun i hi => by rw [coeff_modPoly, List.getD_eq_default _ _ hi, Nat.cast_zero]

theorem natCast_inj_of_lt {a b : Nat} (ha : a < P) (hb : b < P) : (a : ZMod P) = b ↔ a = b := by
  rw [ZMod.natCast_eq_natCast_iff', Nat.mod_eq_of_lt ha, Nat.mod_eq_of_lt hb]

/-- Vectors of one length with entries below P are equal when their polynomials are. -/
theorem eq_of_modPoly_eq {c c' : List Nat} (hlen : c.length = c'.length) (hc : ∀ e ∈ c, e < P)
    (hc' : ∀ e ∈ c', e < P) (h : modPoly P c = modPoly P c') : c = c' := by
  refine List.ext_getElem hlen fun i hi hi' => (natCast_inj_of_lt (hc _ (List.getElem_mem hi))
    (hc' _ (List.getElem_mem hi'))).1 ?_
  rw [← List.getD_eq_getElem _ 0, ← List.getD_eq_getElem _ 0, ← coeff_modPoly, ← coeff_modPoly, h]

theorem modPoly_ext {c : List Nat} {p : (ZMod P)[X]} (h : ∀ i, (c.getD i 0 : ZMod P) = p.coeff i) : modPoly P c = p :=
  Polynomial.ext fun i => by rw [coeff_modPoly, h i]

end

/-! ### The operations of GF(P) (R231) -/

section
variable {P : Nat}

theorem natCast_fAdd (a b : Nat) : (fAdd P a b : ZMod P) = a + b := by
  rw [fAdd, ZMod.natCast_mod, Nat.cast_add]

theorem natCast_fMul (a b : Nat) : (fMul P a b : ZMod P) = a * b := by
  rw [fMul, ZMod.natCast_mod, Nat.cast_mul]

theorem natCast_fSub (hP : 0 < P) (a b : Nat) : (fSub P a b : ZMod P) = a - b := by
  have hnonneg : 0 ≤ ((a : Int) - b) % P := Int.emod_nonneg _ (by omega)
  rw [fSub, ← Int.cast_natCast (R := ZMod P), Int.toNat_of_nonneg hnonneg, ZMod.intCast_mod]
  push_cast
  rfl

variable [hP : Fact P.Prime]

/-- The search of `fInv` finds the inverse modulo a prime. -/
theorem natCast_fInv {a : Nat} (ha : (a : ZMod P) ≠ 0) : (fInv P a : ZMod P) = (a : ZMod P)⁻¹ := by
  have hone : 1 < P := hP.out.one_lt
  have hinverse : ∀ c : Nat, a * c % P = 1 ↔ (a : ZMod P) * c = 1 := fun c => by
    rw [← Nat.cast_mul, ← Nat.cast_one (R := ZMod P), ZMod.natCast_eq_natCast_iff', Nat.mod_eq_of_lt hone]
  have hval : (((a : ZMod P)⁻¹.val : Nat) : ZMod P) = (a : ZMod P)⁻¹ := ZMod.natCast_zmod_val _
  have hexists : ((List.range' 1 (P - 1)).find? fun c => a * c % P = 1).isSome := by
    rw [List.find?_isSome]
    refine ⟨(a : ZMod P)⁻¹.val, List.mem_range'_1.2 ⟨?_, ?_⟩, decide_eq_true ((hinverse _).2 ?_)⟩
    · rw [Nat.one_le_iff_ne_zero, Ne, ZMod.val_eq_zero]
      exact inv_ne_zero ha
    · have := ZMod.val_lt (a : ZMod P)⁻¹
      omega
    · rw [hval, mul_inv_cancel₀ ha]
  obtain ⟨c, hc⟩ := Option.isSome_iff_exists.1 hexists
  have hfound : fInv P a = c := congrArg (·.getD Config.noModInverse) hc
  rw [hfound]
  have hprod : a * c % P = 1 := by simpa using List.find?_some hc
  exact eq_inv_of_mul_eq_one_right ((hinverse c).1 hprod)

theorem natCast_fDiv (a : Nat) {b : Nat} (hb : (b : ZMod P) ≠ 0) : (fDiv P a b : ZMod P) = a * (b : ZMod P)⁻¹ := by
  rw [fDiv, natCast_fMul, natCast_fInv hb]

end

end Sys2Proof.Machine
end

section
/-! SUPPORT. Interpolation: the construction of Lagrange gives the one polynomial of as many coefficients as points that
passes through all of them (R234). -/

namespace Sys2Proof.Machine

open Polynomial

/-! ### The loops of the construction -/

theorem getD_map_range (f : Nat → Nat) (n a : Nat) :
    ((List.range n).map f).getD a 0 = if a < n then f a else 0 := by
  split
  next h => rw [List.getD_eq_getElem _ _ (by simpa using h), List.getElem_map, List.getElem_range]
  next h => exact List.getD_eq_default _ _ (by simpa using h)

theorem mem_others {cnt i j : Nat} : j ∈ others cnt i ↔ j < cnt ∧ j ≠ i := by
  rw [others, List.mem_filter, List.mem_range, decide_eq_true_eq]

theorem others_length {cnt i : Nat} (hi : i < cnt) : (others cnt i).length + 1 = cnt := by
  have herase : others cnt i = (List.range cnt).erase i := by
    rw [List.nodup_range.erase_eq_filter]
    exact List.filter_congr fun j _ => by simp [bne, Bool.beq_eq_decide_eq]
  rw [herase, List.length_erase_of_mem (List.mem_range.2 hi), List.length_range]
  omega

theorem basisNum_length (P : Nat) (xs : List Nat) {i : Nat} (hi : i < xs.length) :
    (basisNum P xs i).length = xs.length := by
  have hfold : ∀ (js num : List Nat), (js.foldl (fun num j => timesLinear P num (xs.getD j 0)) num).length =
      js.length + num.length := by
    intro js
    induction js with
    | nil => simp
    | cons j js ih =>
      intro num
      rw [List.foldl_cons, ih, timesLinear, List.length_map, List.length_range, List.length_cons]
      omega
  rw [basisNum, hfold]
  exact others_length hi

/-- One pass of the loop of R234: the basis polynomial of point `i`, scaled to the value y, is added. -/
def addBasis (P : Nat) (xs ys acc : List Nat) (i : Nat) : List Nat :=
  (List.range xs.length).map fun a =>
    fAdd P (acc.getD a 0) (fMul P (fDiv P (ys.getD i 0) (basisDen P xs i)) ((basisNum P xs i).getD a 0))

theorem rsInterp_eq_foldl (P : Nat) (xs ys : List Nat) :
    rsInterp P xs ys = (List.range xs.length).foldl (addBasis P xs ys) (List.replicate xs.length 0) := rfl

/-- The loop of R234 keeps the length. -/
theorem foldl_addBasis_length (P : Nat) (xs ys is : List Nat) :
    (is.foldl (addBasis P xs ys) (List.replicate xs.length 0)).length = xs.length := by
  induction is using List.reverseRecOn with
  | nil => exact List.length_replicate
  | append_singleton is i _ =>
    rw [List.foldl_append, List.foldl_cons, List.foldl_nil, addBasis, List.length_map, List.length_range]

theorem rsInterp_length (P : Nat) (xs ys : List Nat) : (rsInterp P xs ys).length = xs.length := by
  rw [rsInterp_eq_foldl]
  exact foldl_addBasis_length P xs ys _

theorem rsInterp_lt {P : Nat} (hP : 0 < P) (xs ys : List Nat) : ∀ e ∈ rsInterp P xs ys, e < P := by
  rw [rsInterp_eq_foldl]
  induction List.range xs.length using List.reverseRecOn with
  | nil => exact fun e he => (List.eq_of_mem_replicate he).trans_lt hP
  | append_singleton is i _ =>
    rw [List.foldl_append, List.foldl_cons, List.foldl_nil, addBasis]
    exact List.forall_mem_map.2 fun a _ => Nat.mod_lt _ hP

section
variable {P : Nat} [hP : Fact P.Prime]

/-! ### Uniqueness -/

/-- Two vectors of coefficients that agree at as many different x as they have entries are equal. -/
theorem eq_of_rsEval_eq {xs c c' : List Nat} (hnodup : xs.Nodup) (hxs : ∀ x ∈ xs, x < P) (hc : ∀ e ∈ c, e < P)
    (hc' : ∀ e ∈ c', e < P) (hlen : c.length = c'.length) (I : Finset Nat) (hI : ∀ i ∈ I, i < xs.length)
    (hcard : c.length ≤ I.card) (h : ∀ i ∈ I, rsEval P c (xs.getD i 0) = rsEval P c' (xs.getD i 0)) : c = c' := by
  have hinj : Set.InjOn (fun i => (xs.getD i 0 : ZMod P)) I := fun i hi j hj hij => by
    have hij : (xs.getD i 0 : ZMod P) = (xs.getD j 0 : ZMod P) := hij
    rw [List.getD_eq_getElem _ _ (hI i hi), List.getD_eq_getElem _ _ (hI j hj),
      natCast_inj_of_lt (hxs _ (List.getElem_mem _)) (hxs _ (List.getElem_mem _))] at hij
    exact (hnodup.getElem_inj_iff).1 hij
  have hdeg : ∀ v : List Nat, v.length ≤ I.card → (modPoly P v).degree < I.card := fun v hv =>
    (degree_modPoly_lt v).trans_le (by exact_mod_cast hv)
  refine eq_of_modPoly_eq hlen hc hc' (eq_of_degrees_lt_of_eval_index_eq I hinj (hdeg c hcard)
    (hdeg c' (hlen ▸ hcard)) fun i hi => ?_)
  rw [eval_modPoly, eval_modPoly, h i hi]

/-! ### The basis polynomials -/

theorem modPoly_timesLinear (num : List Nat) (xj : Nat) :
    modPoly P (timesLinear P num xj) = modPoly P num * (X - C (xj : ZMod P)) := by
  refine modPoly_ext fun a => ?_
  have hcoeff : ((timesLinear P num xj).getD a 0 : ZMod P) =
      ((if a = 0 then 0 else num.getD (a - 1) 0 : Nat) : ZMod P) - num.getD a 0 * xj := by
    rw [timesLinear, getD_map_range]
    split
    next => rw [natCast_fSub hP.out.pos, natCast_fMul]
    next h => rw [if_neg (by omega), List.getD_eq_default num _ (by omega), List.getD_eq_default num _ (by omega)]; simp
  rw [hcoeff]
  cases a with
  | zero => simp [mul_sub, coeff_modPoly]
  | succ a => rw [coeff_mul_X_sub_C, coeff_modPoly, coeff_modPoly, if_neg a.succ_ne_zero, Nat.add_sub_cancel]

theorem modPoly_basisNum (xs : List Nat) (i : Nat) : modPoly P (basisNum P xs i) =
    ((others xs.length i).map fun j => X - C (xs.getD j 0 : ZMod P)).prod := by
  have hfold : ∀ (js num : List Nat), modPoly P (js.foldl (fun num j => timesLinear P num (xs.getD j 0)) num) =
      modPoly P num * (js.map fun j => X - C (xs.getD j 0 : ZMod P)).prod := by
    intro js
    induction js with
    | nil => simp
    | cons j js ih => intro num; rw [List.foldl_cons, ih, modPoly_timesLinear, List.map_cons, List.prod_cons, mul_assoc]
  have hone : modPoly P [1] = 1 := by simp [modPoly, listPoly]
  rw [basisNum, hfold, hone, one_mul]

theorem natCast_basisDen (xs : List Nat) (i : Nat) : (basisDen P xs i : ZMod P) =
    ((others xs.length i).map fun j => (xs.getD i 0 : ZMod P) - xs.getD j 0).prod := by
  have hfold : ∀ (js : List Nat) (den : Nat),
      ((js.foldl (fun den j => fMul P den (fSub P (xs.getD i 0) (xs.getD j 0))) den : Nat) : ZMod P) =
        den * (js.map fun j => (xs.getD i 0 : ZMod P) - xs.getD j 0).prod := by
    intro js
    induction js with
    | nil => simp
    | cons j js ih =>
      intro den
      rw [List.foldl_cons, ih, natCast_fMul, natCast_fSub hP.out.pos, List.map_cons, List.prod_cons, mul_assoc]
  rw [basisDen, hfold, Nat.cast_one, one_mul]

/-- A basis polynomial before it is scaled is 0 at the x of the other points. -/
theorem eval_basisNum_of_ne (xs : List Nat) {i k : Nat} (hk : k < xs.length) (hne : k ≠ i) :
    (modPoly P (basisNum P xs i)).eval (xs.getD k 0 : ZMod P) = 0 := by
  rw [modPoly_basisNum, eval_list_prod, List.map_map]
  refine List.prod_eq_zero (List.mem_map.2 ⟨k, mem_others.2 ⟨hk, hne⟩, ?_⟩)
  simp

/-- A basis polynomial before it is scaled has its denominator as value at the x of its own point. -/
theorem eval_basisNum_self (xs : List Nat) (i : Nat) :
    (modPoly P (basisNum P xs i)).eval (xs.getD i 0 : ZMod P) = (basisDen P xs i : ZMod P) := by
  rw [modPoly_basisNum, eval_list_prod, List.map_map, natCast_basisDen]
  simp [Function.comp_def]

theorem natCast_basisDen_ne_zero {xs : List Nat} (hnodup : xs.Nodup) (hxs : ∀ x ∈ xs, x < P) {i : Nat}
    (hi : i < xs.length) : (basisDen P xs i : ZMod P) ≠ 0 := by
  rw [natCast_basisDen]
  refine List.prod_ne_zero fun hzero => ?_
  obtain ⟨j, hj, hdiff⟩ := List.mem_map.1 hzero
  obtain ⟨hj, hne⟩ := mem_others.1 hj
  rw [sub_eq_zero, List.getD_eq_getElem _ _ hi, List.getD_eq_getElem _ _ hj,
    natCast_inj_of_lt (hxs _ (List.getElem_mem _)) (hxs _ (List.getElem_mem _)), hnodup.getElem_inj_iff] at hdiff
  exact hne hdiff.symm

/-! ### The sum of the scaled basis polynomials -/

theorem modPoly_addBasis {xs ys acc : List Nat} {i : Nat} (hi : i < xs.length) (hacc : acc.length = xs.length) :
    modPoly P (addBasis P xs ys acc i) = modPoly P acc +
      C (fDiv P (ys.getD i 0) (basisDen P xs i) : ZMod P) * modPoly P (basisNum P xs i) := by
  refine modPoly_ext fun a => ?_
  rw [coeff_add, coeff_C_mul, coeff_modPoly, coeff_modPoly, addBasis, getD_map_range]
  split
  next => rw [natCast_fAdd, natCast_fMul]
  next ha =>
    have hnum := basisNum_length P xs hi
    rw [List.getD_eq_default acc _ (by omega), List.getD_eq_default (basisNum P xs i) _ (by omega)]
    simp

theorem modPoly_rsInterp (xs ys : List Nat) : modPoly P (rsInterp P xs ys) = ∑ i ∈ Finset.range xs.length,
    C (fDiv P (ys.getD i 0) (basisDen P xs i) : ZMod P) * modPoly P (basisNum P xs i) := by
  have hpasses : ∀ m ≤ xs.length,
      modPoly P ((List.range m).foldl (addBasis P xs ys) (List.replicate xs.length 0)) = ∑ i ∈ Finset.range m,
        C (fDiv P (ys.getD i 0) (basisDen P xs i) : ZMod P) * modPoly P (basisNum P xs i) := by
    intro m hm
    induction m with
    | zero => exact modPoly_ext fun i => by simp
    | succ m ih =>
      have hlen := foldl_addBasis_length P xs ys (List.range m)
      rw [List.range_succ, List.foldl_append, List.foldl_cons, List.foldl_nil, modPoly_addBasis hm hlen, ih (by omega),
        Finset.sum_range_succ]
  exact hpasses _ le_rfl

/-- The interpolated polynomial takes the value y at the x of every point (R234). -/
theorem rsEval_rsInterp {xs ys : List Nat} (hxs : ∀ x ∈ xs, x < P) (hys : ∀ y ∈ ys, y < P) (hnodup : xs.Nodup)
    (hlen : xs.length = ys.length) {k : Nat} (hk : k < xs.length) :
    rsEval P (rsInterp P xs ys) (xs.getD k 0) = ys.getD k 0 := by
  have hy : ys.getD k 0 < P := by
    rw [List.getD_eq_getElem _ _ (hlen ▸ hk)]
    exact hys _ (List.getElem_mem _)
  have hden := natCast_basisDen_ne_zero hnodup hxs hk
  rw [← natCast_inj_of_lt (rsEval_lt hP.out.pos _ _) hy, ← eval_modPoly, modPoly_rsInterp, eval_finsetSum,
    Finset.sum_eq_single_of_mem k (Finset.mem_range.2 hk) fun i _ hne => ?_]
  · rw [eval_mul, eval_C, eval_basisNum_self, natCast_fDiv _ hden, inv_mul_cancel_right₀ hden]
  · rw [eval_mul, eval_basisNum_of_ne xs hk hne.symm, mul_zero]

theorem rsVerify_rsInterp {xs ys : List Nat} (hxs : ∀ x ∈ xs, x < P) (hys : ∀ y ∈ ys, y < P) (hnodup : xs.Nodup)
    (hlen : xs.length = ys.length) : rsVerify P xs ys (rsInterp P xs ys) = true :=
  (rsVerify_iff_getD hlen).2 fun _ hk => rsEval_rsInterp hxs hys hnodup hlen hk

/-- A polynomial of as many coefficients as points that passes through all of them is the interpolated one (R234). -/
theorem eq_rsInterp_of_rsVerify {xs ys c : List Nat} (hxs : ∀ x ∈ xs, x < P) (hys : ∀ y ∈ ys, y < P)
    (hnodup : xs.Nodup) (hlen : xs.length = ys.length) (hclen : c.length = xs.length) (hc : ∀ e ∈ c, e < P)
    (h : rsVerify P xs ys c = true) : c = rsInterp P xs ys := by
  refine eq_of_rsEval_eq hnodup hxs hc (rsInterp_lt hP.out.pos xs ys) (hclen.trans (rsInterp_length P xs ys).symm)
    (Finset.range xs.length) (fun i hi => Finset.mem_range.1 hi) (by rw [Finset.card_range, hclen]) fun i hi => ?_
  have hi := Finset.mem_range.1 hi
  rw [(rsVerify_iff_getD hlen).1 h i hi, rsEval_rsInterp hxs hys hnodup hlen hi]

end

/-- The prime of the RS unit's field (R230). -/
theorem fact_prime_rsp : Fact (Nat.Prime 31) := ⟨by norm_num⟩

/-- Settles O55: exactness point by point, and uniqueness by the number of roots of a difference. -/
theorem interpolationIsExactAndUnique : Obligations.InterpolationIsExactAndUnique := by
  unfold Obligations.InterpolationIsExactAndUnique
  intro xs ys hlen hxs hys hnodup
  have := fact_prime_rsp
  exact ⟨rsInterp_length 31 xs ys, rsInterp_lt (by decide) xs ys, rsVerify_rsInterp hxs hys hnodup hlen,
    fun c hclen hc => eq_rsInterp_of_rsVerify hxs hys hnodup hlen hclen hc⟩

end Sys2Proof.Machine
end

section
/-! SUPPORT. The combinations that the majority vote enumerates (R241). -/

namespace Sys2Proof.Machine

theorem combinations_nil (k : Nat) : combinations (k + 1) [] = [] := rfl

theorem combinations_cons (k x : Nat) (xs : List Nat) :
    combinations (k + 1) (x :: xs) = (combinations k xs).map (x :: ·) ++ combinations (k + 1) xs := rfl

/-- Up to order, the combinations are the sublists of one length. -/
theorem combinations_perm_sublistsLen (k : Nat) (l : List Nat) : (combinations k l).Perm (l.sublistsLen k) := by
  induction l generalizing k with
  | nil => cases k <;> exact .refl _
  | cons x xs ih =>
    cases k with
    | zero => rw [List.sublistsLen_zero]; exact .refl _
    | succ k =>
      rw [combinations_cons, List.sublistsLen_succ_cons]
      exact List.perm_append_comm.trans ((ih (k + 1)).append ((ih k).map _))

theorem mem_combinations_iff {k : Nat} {l T : List Nat} : T ∈ combinations k l ↔ T.Sublist l ∧ T.length = k := by
  rw [(combinations_perm_sublistsLen k l).mem_iff, List.mem_sublistsLen]

theorem combinations_length (k : Nat) (l : List Nat) : (combinations k l).length = l.length.choose k := by
  rw [(combinations_perm_sublistsLen k l).length_eq, List.length_sublistsLen]

/-- The combinations with the first entry come before those without it, and are smaller. -/
theorem combinations_pairwise_lex (k : Nat) {l : List Nat} (hl : l.Pairwise (· < ·)) :
    (combinations k l).Pairwise (List.Lex (· < ·)) := by
  induction l generalizing k with
  | nil => cases k <;> simp [combinations]
  | cons x xs ih =>
    obtain ⟨hx, hxs⟩ := List.pairwise_cons.1 hl
    cases k with
    | zero => exact List.pairwise_singleton _ _
    | succ k =>
      rw [combinations_cons, List.pairwise_append, List.pairwise_map]
      refine ⟨(ih k hxs).imp .cons, ih (k + 1) hxs, fun S hS T hT => ?_⟩
      obtain ⟨S, -, rfl⟩ := List.mem_map.1 hS
      obtain ⟨hT, hlen⟩ := mem_combinations_iff.1 hT
      obtain ⟨y, T, rfl⟩ := List.exists_cons_of_length_eq_add_one hlen
      exact .rel (hx y (hT.subset List.mem_cons_self))

/-- The sublists of 0 .. total - 1 are the ascending tuples. -/
theorem sublist_range_iff {T : List Nat} {total : Nat} :
    T.Sublist (List.range total) ↔ T.Pairwise (· < ·) ∧ ∀ i ∈ T, i < total := by
  refine ⟨fun h => ⟨List.pairwise_lt_range.sublist h, fun i hi => List.mem_range.1 (h.subset hi)⟩,
    fun ⟨hasc, hlt⟩ => ?_⟩
  have hnodup : T.Nodup := hasc.imp Nat.ne_of_lt
  exact List.sublist_of_subperm_of_pairwise (hnodup.subperm fun i hi => List.mem_range.2 (hlt i hi))
    hasc List.pairwise_lt_range

/-- Settles O60: the combinations are the sublists of one length, with the smaller first entries first. -/
theorem combinationsAreLexicographic : Obligations.CombinationsAreLexicographic := by
  unfold Obligations.CombinationsAreLexicographic
  intro k total
  refine ⟨combinations_pairwise_lex k List.pairwise_lt_range, fun T => ?_, ?_⟩
  · rw [mem_combinations_iff, sublist_range_iff, and_comm]
  · rw [combinations_length, List.length_range]

end Sys2Proof.Machine
end

section
/-! SUPPORT. The points with distinct x that `rsDecode` keeps (R233). -/

namespace Sys2Proof.Machine

/-- The x coordinates that `dedup` keeps. -/
def keptX (xs ys : List Nat) : List Nat := (dedup xs ys).map fun p => p.2.1

/-- The y values that `dedup` keeps. -/
def keptY (xs ys : List Nat) : List Nat := (dedup xs ys).map fun p => p.2.2

theorem keptX_length (xs ys : List Nat) : (keptX xs ys).length = (dedup xs ys).length := List.length_map _

theorem keptY_length (xs ys : List Nat) : (keptY xs ys).length = (dedup xs ys).length := List.length_map _

/-- A triple of `dedup` is a point with its index, whose x no smaller index has. -/
theorem mem_dedup_iff {xs ys : List Nat} {i x y : Nat} :
    (i, x, y) ∈ dedup xs ys ↔ xs[i]? = some x ∧ ys[i]? = some y ∧ x ∉ xs.take i := by
  simp [dedup, List.mk_mem_zipIdx_iff_getElem?, List.getElem?_zip_eq_some, and_assoc]

theorem mem_keptX_iff {xs ys : List Nat} (h : xs.length = ys.length) {x : Nat} : x ∈ keptX xs ys ↔ x ∈ xs := by
  rw [keptX, List.mem_map]
  constructor
  · rintro ⟨⟨i, x, y⟩, hp, rfl⟩
    obtain ⟨hx, -, -⟩ := mem_dedup_iff.1 hp
    exact List.mem_of_getElem? hx
  · intro hx
    have hi := List.idxOf_lt_length_iff.2 hx
    have hy : ys[xs.idxOf x]? = some ys[xs.idxOf x] := List.getElem?_eq_getElem (h ▸ hi)
    have hfirst : x ∉ xs.take (xs.idxOf x) := by
      rw [List.mem_take_iff_idxOf_lt hx]
      exact lt_irrefl _
    exact ⟨_, mem_dedup_iff.2 ⟨List.getElem?_idxOf hx, hy, hfirst⟩, rfl⟩

theorem mem_of_mem_keptY {xs ys : List Nat} {y : Nat} (hy : y ∈ keptY xs ys) : y ∈ ys := by
  obtain ⟨⟨i, x, y⟩, hp, rfl⟩ := List.mem_map.1 hy
  obtain ⟨-, hy, -⟩ := mem_dedup_iff.1 hp
  exact List.mem_of_getElem? hy

theorem keptX_nodup (xs ys : List Nat) : (keptX xs ys).Nodup := by
  rw [keptX, dedup, List.map_map, List.Nodup, List.pairwise_map, List.pairwise_filter, List.pairwise_iff_getElem]
  intro i j hi hj hij _ hfirst heq
  rw [List.length_zipIdx, List.length_zip] at hi hj
  simp only [List.getElem_zipIdx, List.getElem_zip, Nat.zero_add, Function.comp_apply] at hfirst heq
  refine of_decide_eq_true hfirst ?_
  rw [← heq, List.mem_take_iff_getElem]
  exact ⟨i, by omega, rfl⟩

/-- `dedup` keeps one point for each different x. -/
theorem dedup_length {xs ys : List Nat} (h : xs.length = ys.length) :
    (dedup xs ys).length = (List.dedup xs).length := by
  rw [← keptX_length]
  exact ((List.perm_ext_iff_of_nodup (keptX_nodup xs ys) (List.nodup_dedup xs)).2 fun x => by
    rw [mem_keptX_iff h, List.mem_dedup]).length_eq

/-- Where the x are distinct, `dedup` keeps all points. -/
theorem dedup_of_nodup {xs ys : List Nat} (h : xs.Nodup) :
    dedup xs ys = (xs.zip ys).zipIdx.map fun p => (p.2, p.1.1, p.1.2) := by
  rw [dedup, List.filter_eq_self.2]
  rintro ⟨⟨x, y⟩, i⟩ hp
  obtain ⟨hx, -⟩ := List.getElem?_zip_eq_some.1 (List.mk_mem_zipIdx_iff_getElem?.1 hp)
  obtain ⟨hi, rfl⟩ := List.getElem?_eq_some_iff.1 hx
  refine decide_eq_true fun htake => ?_
  rw [List.mem_take_iff_idxOf_lt (List.getElem_mem hi), h.idxOf_getElem] at htake
  exact lt_irrefl _ htake

section
variable {xs ys : List Nat} (hnodup : xs.Nodup) (h : xs.length = ys.length)
include hnodup h

theorem keptX_of_nodup : keptX xs ys = xs := by
  rw [keptX, dedup_of_nodup hnodup]
  refine List.ext_getElem ?_ fun i _ _ => ?_ <;> simp [h]

theorem keptY_of_nodup : keptY xs ys = ys := by
  rw [keptY, dedup_of_nodup hnodup]
  refine List.ext_getElem ?_ fun i _ _ => ?_ <;> simp [h]

theorem dedup_indices_of_nodup : (dedup xs ys).map Prod.fst = List.range xs.length := by
  rw [dedup_of_nodup hnodup]
  refine List.ext_getElem ?_ fun i _ _ => ?_ <;> simp [h]

end

end Sys2Proof.Machine
end

section
/-! SUPPORT. Decoding by single exclusion: the ends of `rsDecode`, and the correction of one wrong y value (R239,
R244). -/

namespace Sys2Proof.Machine

/-! ### One interpolation and one exclusion -/

/-- The polynomial through the first d + 1 of some points. -/
def firstFit (P d : Nat) (X Y : List Nat) : List Nat := rsInterp P (X.take (d + 1)) (Y.take (d + 1))

section
variable {P d : Nat} {X Y c : List Nat}

theorem firstFit_length (h : d + 1 ≤ X.length) : (firstFit P d X Y).length = d + 1 := by
  rw [firstFit, rsInterp_length, List.length_take, Nat.min_eq_left h]

/-- All points but point `q`, side by side. -/
theorem zip_eraseIdx_eraseIdx (X Y : List Nat) (q : Nat) :
    (X.eraseIdx q).zip (Y.eraseIdx q) = (X.zip Y).eraseIdx q := by
  induction X generalizing Y q with
  | nil => simp
  | cons x X ih =>
    cases Y with
    | nil => simp
    | cons y Y =>
      cases q with
      | zero => rfl
      | succ q => simpa using ih Y q

theorem rsVerify_eraseIdx_iff (h : X.length = Y.length) {q : Nat} :
    rsVerify P (X.eraseIdx q) (Y.eraseIdx q) c = true ↔
      ∀ i < X.length, i ≠ q → rsEval P c (X.getD i 0) = Y.getD i 0 := by
  rw [rsVerify_iff_zip, zip_eraseIdx_eraseIdx]
  refine ⟨fun hfit i hi hne => ?_, fun hfit p hp => ?_⟩
  · have hzip : i < (X.zip Y).length := by rw [List.length_zip]; omega
    have := hfit _ (List.mem_eraseIdx_iff_getElem.2 ⟨i, hzip, hne, rfl⟩)
    rwa [List.getElem_zip, ← List.getD_eq_getElem _ 0, ← List.getD_eq_getElem _ 0] at this
  · obtain ⟨i, hi, hne, rfl⟩ := List.mem_eraseIdx_iff_getElem.1 hp
    rw [List.length_zip] at hi
    rw [List.getElem_zip, ← List.getD_eq_getElem _ 0, ← List.getD_eq_getElem _ 0]
    exact hfit i (by omega) hne

theorem tryExclude_eq_some_iff {q : Nat} : tryExclude P d X Y q = some c ↔
    firstFit P d (X.eraseIdx q) (Y.eraseIdx q) = c ∧ rsVerify P (X.eraseIdx q) (Y.eraseIdx q) c = true := by
  have hdef : tryExclude P d X Y q =
      if rsVerify P (X.eraseIdx q) (Y.eraseIdx q) (firstFit P d (X.eraseIdx q) (Y.eraseIdx q)) = true then
        some (firstFit P d (X.eraseIdx q) (Y.eraseIdx q)) else none := rfl
  rw [hdef, Option.ite_none_right_eq_some, and_comm]
  refine ⟨fun ⟨hc, hfit⟩ => ?_, fun ⟨hc, hfit⟩ => ?_⟩
  · cases hc
    exact ⟨rfl, hfit⟩
  · exact ⟨congrArg some hc, hc ▸ hfit⟩

/-! ### The loop of R239 -/

/-- The loop answers the first exclusion that explains all mismatches. -/
theorem excludeLoop_of_first {indices before after : List Nat} {q : Nat}
    (hbefore : ∀ p ∈ before, tryExclude P d X Y p = none) (hq : tryExclude P d X Y q = some c) :
    excludeLoop P d X Y indices (before ++ q :: after) = some (c, indices.getD q 0) := by
  induction before with
  | nil => rw [List.nil_append, excludeLoop, hq]
  | cons p before ih =>
    obtain ⟨hp, hrest⟩ := List.forall_mem_cons.1 hbefore
    rw [List.cons_append, excludeLoop, hp]
    exact ih hrest

/-- What the loop answers is one of the attempts. -/
theorem exists_tryExclude_of_excludeLoop {indices qs : List Nat} {i : Nat}
    (h : excludeLoop P d X Y indices qs = some (c, i)) : ∃ q ∈ qs, tryExclude P d X Y q = some c := by
  induction qs with
  | nil => cases h
  | cons q qs ih =>
    rw [excludeLoop] at h
    split at h
    next c' hc' =>
      cases h
      exact ⟨q, List.mem_cons_self, hc'⟩
    next =>
      obtain ⟨p, hp, hc⟩ := ih h
      exact ⟨p, List.mem_cons_of_mem _ hp, hc⟩

end

/-! ### The ends of `rsDecode` (R239) -/

section
variable {P d : Nat} {xs ys c : List Nat}

theorem rsDecode_of_few (h : (dedup xs ys).length < d + 1) : rsDecode P xs ys d = .error .wrongPointCount := if_pos h

theorem rsDecode_of_fits (h : d + 1 ≤ (dedup xs ys).length) (hc : firstFit P d (keptX xs ys) (keptY xs ys) = c)
    (hfit : rsVerify P (keptX xs ys) (keptY xs ys) c = true) : rsDecode P xs ys d = .ok (c, -1, 0) := by
  subst hc
  exact (if_neg (not_lt.2 h)).trans (if_pos hfit)

/-- With a point that misses the first polynomial the loop of exclusions decides. -/
theorem rsDecode_of_misses (h : d + 1 ≤ (dedup xs ys).length)
    (hmiss : ¬ rsVerify P (keptX xs ys) (keptY xs ys) (firstFit P d (keptX xs ys) (keptY xs ys)) = true) :
    rsDecode P xs ys d =
      match excludeLoop P d (keptX xs ys) (keptY xs ys) ((dedup xs ys).map Prod.fst)
        (List.range (dedup xs ys).length) with
      | some (c, index) => .ok (c, index, 1)
      | none => .ok (firstFit P d (keptX xs ys) (keptY xs ys), -1, 2) :=
  (if_neg (not_lt.2 h)).trans (if_neg hmiss)

end

section
variable {P d : Nat} [hP : Fact P.Prime] {X Y c : List Nat}

/-- The first d + 1 of points on a polynomial of d + 1 coefficients give that polynomial. -/
theorem firstFit_of_rsVerify (hX : ∀ x ∈ X, x < P) (hnodup : X.Nodup) (hlen : X.length = Y.length)
    (hle : d + 1 ≤ X.length) (hclen : c.length = d + 1) (hc : ∀ e ∈ c, e < P) (h : rsVerify P X Y c = true) :
    firstFit P d X Y = c := by
  have hfit := (rsVerify_iff_getD hlen).1 h
  have hY : ∀ y ∈ Y, y < P := List.forall_mem_iff_getElem.2 fun i hi => by
    rw [← List.getD_eq_getElem _ 0, ← hfit i (hlen ▸ hi)]
    exact rsEval_lt hP.out.pos _ _
  refine (eq_rsInterp_of_rsVerify (fun x hx => hX x (List.mem_of_mem_take hx))
    (fun y hy => hY y (List.mem_of_mem_take hy)) (hnodup.sublist (List.take_sublist _ _))
    (by simp [hlen]) (by simp [hclen]; omega) hc ?_).symm
  refine rsVerify_iff_zip.2 fun p hp => rsVerify_iff_zip.1 h p ?_
  rw [List.zip, ← List.take_zipWith] at hp
  exact List.mem_of_mem_take hp

/-- Exactly d + 1 points always fit the polynomial through them. -/
theorem rsVerify_firstFit_of_length_eq (hX : ∀ x ∈ X, x < P) (hY : ∀ y ∈ Y, y < P) (hnodup : X.Nodup)
    (hlen : X.length = Y.length) (h : X.length = d + 1) : rsVerify P X Y (firstFit P d X Y) = true := by
  rw [firstFit, List.take_of_length_le h.le, List.take_of_length_le (hlen ▸ h.le)]
  exact rsVerify_rsInterp hX hY hnodup hlen

end

/-- Points with distinct x below 31 decode, to d + 1 coefficients and a count 0, 1 or 2: the loop of exclusions is
reached with a point to spare only (R239). -/
theorem rsDecode_of_enough {xs ys : List Nat} {d : Nat} (hxs : ∀ x ∈ xs, x < 31) (hys : ∀ y ∈ ys, y < 31)
    (hlen : xs.length = ys.length) (h : d + 1 ≤ (dedup xs ys).length) : ∃ (c : List Nat) (loc cnt : Int),
      rsDecode 31 xs ys d = .ok (c, loc, cnt) ∧ c.length = d + 1 ∧ (cnt = 0 ∨ cnt = 1 ∨ cnt = 2) := by
  have := fact_prime_rsp
  have hX := keptX_length xs ys
  have hY := keptY_length xs ys
  have hfirst : (firstFit 31 d (keptX xs ys) (keptY xs ys)).length = d + 1 := firstFit_length (hX ▸ h)
  by_cases hfit : rsVerify 31 (keptX xs ys) (keptY xs ys) (firstFit 31 d (keptX xs ys) (keptY xs ys)) = true
  · exact ⟨_, _, _, rsDecode_of_fits h rfl hfit, hfirst, .inl rfl⟩
  · have hspare : d + 1 ≠ (dedup xs ys).length := fun heq => hfit <|
      rsVerify_firstFit_of_length_eq (fun x hx => hxs x ((mem_keptX_iff hlen).1 hx))
        (fun y hy => hys y (mem_of_mem_keptY hy)) (keptX_nodup xs ys) (hX.trans hY.symm) (hX.trans heq.symm)
    rw [rsDecode_of_misses h hfit]
    split
    next c i hc =>
      obtain ⟨q, hq, htry⟩ := exists_tryExclude_of_excludeLoop hc
      obtain ⟨rfl, -⟩ := tryExclude_eq_some_iff.1 htry
      have hq := List.mem_range.1 hq
      refine ⟨_, _, _, rfl, firstFit_length ?_, .inr (.inl rfl)⟩
      rw [List.length_eraseIdx_of_lt (hX ▸ hq)]
      omega
    next => exact ⟨_, _, _, rfl, hfirst, .inr (.inr rfl)⟩

/-! ### One wrong y value (R244) -/

section
variable {P d : Nat} [hP : Fact P.Prime] {X Y c c' : List Nat} {e : Nat} (hX : ∀ x ∈ X, x < P) (hnodup : X.Nodup)
  (hclen : c.length = d + 1) (hc : ∀ a ∈ c, a < P)
  (hclean : ∀ i < X.length, i ≠ e → rsEval P c (X.getD i 0) = Y.getD i 0)
include hX hnodup hclen hc hclean

/-- A polynomial that agrees with all points but one, or but two of which one is wrong, is the true one: the two share
at least d + 1 points. -/
theorem eq_of_fits_but_one (hle : d + 3 ≤ X.length) (hclen' : c'.length = d + 1) (hc' : ∀ a ∈ c', a < P) {q : Nat}
    (hfit : ∀ i < X.length, i ≠ q → rsEval P c' (X.getD i 0) = Y.getD i 0) : c' = c := by
  refine eq_of_rsEval_eq hnodup hX hc' hc (hclen'.trans hclen.symm) (((Finset.range X.length).erase q).erase e)
    (fun i hi => Finset.mem_range.1 (Finset.mem_of_mem_erase (Finset.mem_of_mem_erase hi))) ?_ fun i hi => ?_
  · have hcard := Finset.card_range X.length
    have hq := Finset.pred_card_le_card_erase (s := Finset.range X.length) (a := q)
    have he := Finset.pred_card_le_card_erase (s := (Finset.range X.length).erase q) (a := e)
    omega
  · obtain ⟨hie, hi⟩ := Finset.mem_erase.1 hi
    obtain ⟨hiq, hi⟩ := Finset.mem_erase.1 hi
    have hi := Finset.mem_range.1 hi
    rw [hfit i hi hiq, hclean i hi hie]

variable (hlen : X.length = Y.length) (he : e < X.length) (hwrong : rsEval P c (X.getD e 0) ≠ Y.getD e 0)
include hlen he

/-- The exclusion of the wrong point gives the true polynomial. -/
theorem tryExclude_wrong (hle : d + 3 ≤ X.length) : tryExclude P d X Y e = some c := by
  have hfit : rsVerify P (X.eraseIdx e) (Y.eraseIdx e) c = true := (rsVerify_eraseIdx_iff hlen).2 hclean
  have hXe := List.length_eraseIdx_of_lt he
  have hYe := List.length_eraseIdx_of_lt (hlen ▸ he)
  exact tryExclude_eq_some_iff.2 ⟨firstFit_of_rsVerify (fun x hx => hX x (List.mem_of_mem_eraseIdx hx))
    (hnodup.sublist (List.eraseIdx_sublist _ _)) (by omega) (by omega) hclen hc hfit, hfit⟩

include hwrong

/-- The exclusion of another point explains nothing. -/
theorem tryExclude_clean (hle : d + 3 ≤ X.length) {q : Nat} (hq : q < X.length) (hne : q ≠ e) :
    tryExclude P d X Y q = none := by
  rw [Option.eq_none_iff_forall_ne_some]
  intro c' htry
  obtain ⟨hc', hfit⟩ := tryExclude_eq_some_iff.1 htry
  have hfit := (rsVerify_eraseIdx_iff hlen).1 hfit
  have hclen' : c'.length = d + 1 := by
    rw [← hc']
    refine firstFit_length ?_
    rw [List.length_eraseIdx_of_lt hq]
    omega
  have heq := eq_of_fits_but_one hX hnodup hclen hc hclean hle hclen'
    (hc' ▸ rsInterp_lt hP.out.pos _ _) hfit
  exact hwrong (heq ▸ hfit e he hne.symm)

/-- The polynomial through the first d + 1 points does not fit all points. -/
theorem not_rsVerify_firstFit (hle : d + 3 ≤ X.length) : ¬ rsVerify P X Y (firstFit P d X Y) = true := by
  intro hfit
  have hfit := (rsVerify_iff_getD hlen).1 hfit
  have heq := eq_of_fits_but_one (q := e) hX hnodup hclen hc hclean hle (firstFit_length (by omega))
    (rsInterp_lt hP.out.pos _ _) fun i hi _ => hfit i hi
  exact hwrong (heq ▸ hfit e he)

/-- The loop of exclusions stops at the wrong point. -/
theorem excludeLoop_wrong (hle : d + 3 ≤ X.length) (indices : List Nat) :
    excludeLoop P d X Y indices (List.range X.length) = some (c, indices.getD e 0) := by
  obtain ⟨before, after, hsplit, hbefore⟩ := List.eq_append_cons_of_mem (List.mem_range.2 he)
  rw [hsplit]
  refine excludeLoop_of_first (fun q hq => ?_) (tryExclude_wrong hX hnodup hclen hc hclean hlen he hle)
  have hqX : q < X.length := List.mem_range.1 (hsplit ▸ List.mem_append_left _ hq)
  exact tryExclude_clean hX hnodup hclen hc hclean hlen he hwrong hle hqX fun heq => hbefore (heq ▸ hq)

end

/-- Settles O58: with two points to spare, a polynomial that fits all points but one shares d + 1 points with the true
one. -/
theorem singleExclusionCorrectsOneError : Obligations.SingleExclusionCorrectsOneError := by
  unfold Obligations.SingleExclusionCorrectsOneError
  intro xs c d hnodup hxs hclen hc
  have := fact_prime_rsp
  have hvalue : ∀ i < xs.length, (xs.map (rsEval 31 c)).getD i 0 = rsEval 31 c (xs.getD i 0) := fun i hi => by
    simp [hi]
  refine ⟨fun hle => ?clean, fun hle e y he hy hne => ?corrected⟩
  case clean =>
    have hlen : xs.length = (xs.map (rsEval 31 c)).length := (List.length_map _).symm
    have hfit : rsVerify 31 xs (xs.map (rsEval 31 c)) c = true :=
      (rsVerify_iff_getD hlen).2 fun i hi => (hvalue i hi).symm
    have hX := keptX_of_nodup hnodup hlen
    have hY := keptY_of_nodup hnodup hlen
    refine rsDecode_of_fits (by rwa [← keptX_length, hX]) ?_ ?_ <;> rw [hX, hY]
    · exact firstFit_of_rsVerify hxs hnodup hlen hle hclen hc hfit
    · exact hfit
  case corrected =>
    have hlen : xs.length = ((xs.map (rsEval 31 c)).set e y).length := by simp
    have hclean : ∀ i < xs.length, i ≠ e →
        rsEval 31 c (xs.getD i 0) = ((xs.map (rsEval 31 c)).set e y).getD i 0 := fun i hi hie => by
      rw [← hvalue i hi, List.getD_eq_getElem?_getD, List.getD_eq_getElem?_getD, List.getElem?_set_ne hie.symm]
    have hwrong : rsEval 31 c (xs.getD e 0) ≠ ((xs.map (rsEval 31 c)).set e y).getD e 0 := by
      rw [List.getD_eq_getElem (List.set _ e y) 0 (hlen ▸ he), List.getElem_set_self]
      exact hne.symm
    have hX := keptX_of_nodup hnodup hlen
    have hY := keptY_of_nodup hnodup hlen
    have hcount := (keptX_length xs _).symm.trans (congrArg List.length hX)
    have hmiss := not_rsVerify_firstFit hxs hnodup hclen hc hclean hlen he hwrong hle
    have hloop := excludeLoop_wrong hxs hnodup hclen hc hclean hlen he hwrong hle (List.range xs.length)
    rw [rsDecode_of_misses (by omega) (by rwa [hX, hY]), hX, hY, hcount, dedup_indices_of_nodup hnodup hlen, hloop]
    simp [he]

end Sys2Proof.Machine
end

section
/-! SUPPORT. Decoding by majority vote: which combinations can be interpolated, and what the groups hold (R241,
R242). -/

namespace Sys2Proof.Machine

/-! ### Combinations with distinct x -/

/-- The entries of `xs` at the indices of a combination. -/
def entriesAt (xs T : List Nat) : List Nat := T.map fun i => xs.getD i 0

theorem entriesAt_length (xs T : List Nat) : (entriesAt xs T).length = T.length := List.length_map _

theorem entriesAt_range (xs : List Nat) : entriesAt xs (List.range xs.length) = xs :=
  List.ext_getElem (by simp [entriesAt]) fun i hi hi' => by simp [entriesAt, hi']

/-- A combination of `k` indices whose x are distinct exists exactly when there are `k` different x. -/
theorem exists_combination_iff {xs : List Nat} {k : Nat} :
    (∃ T ∈ combinations k (List.range xs.length), (entriesAt xs T).Nodup) ↔ k ≤ (List.dedup xs).length := by
  constructor
  · rintro ⟨T, hT, hnodup⟩
    obtain ⟨hsub, rfl⟩ := mem_combinations_iff.1 hT
    have hmem : entriesAt xs T ⊆ List.dedup xs := fun x hx => by
      have hx := (hsub.map fun i => xs.getD i 0).subset hx
      exact List.mem_dedup.2 (entriesAt_range xs ▸ hx)
    exact (entriesAt_length xs T).symm.le.trans (hnodup.subperm hmem).length_le
  · intro hk
    have hsub : ((List.dedup xs).take k).Sublist (entriesAt xs (List.range xs.length)) := by
      rw [entriesAt_range]
      exact (List.take_sublist _ _).trans (List.dedup_sublist xs)
    obtain ⟨T, hT, htake⟩ := List.sublist_map_iff.1 hsub
    have htake : (List.dedup xs).take k = entriesAt xs T := htake
    refine ⟨T, mem_combinations_iff.2 ⟨hT, ?_⟩, ?_⟩
    · rw [← entriesAt_length xs, ← htake, List.length_take, Nat.min_eq_left hk]
    · rw [← htake]
      exact (List.nodup_dedup xs).sublist (List.take_sublist _ _)

/-! ### The groups (R242) -/

/-- The candidate polynomials are those there were and the added one. -/
theorem mem_candidates_addToGroups {c c' T : List Nat} {groups : Groups} :
    c' ∈ (addToGroups c T groups).map Prod.fst ↔ c' = c ∨ c' ∈ groups.map Prod.fst := by
  induction groups with
  | nil => simp [addToGroups]
  | cons g rest ih =>
    rw [addToGroups]
    split
    next h => simp [h]
    next => rw [List.map_cons, List.mem_cons, ih, List.map_cons, List.mem_cons, or_left_comm]

/-- One pass of the loop of R242: a combination with distinct x is added to the group of its polynomial. -/
def addVote (P : Nat) (xs ys : List Nat) (groups : Groups) (T : List Nat) : Groups :=
  if (entriesAt xs T).Nodup then addToGroups (rsInterp P (entriesAt xs T) (entriesAt ys T)) T groups else groups

theorem rsGroups_eq_foldl (P : Nat) (xs ys : List Nat) (d : Nat) :
    rsGroups P xs ys d = (combinations (d + 1) (List.range xs.length)).foldl (addVote P xs ys) [] := rfl

theorem mem_candidates_addVote {P : Nat} {xs ys c T : List Nat} {groups : Groups} :
    c ∈ (addVote P xs ys groups T).map Prod.fst ↔ c ∈ groups.map Prod.fst ∨
      (entriesAt xs T).Nodup ∧ c = rsInterp P (entriesAt xs T) (entriesAt ys T) := by
  rw [addVote]
  split
  next h => rw [mem_candidates_addToGroups, or_comm, and_iff_right h]
  next h => exact ⟨.inl, fun hor => hor.resolve_right fun ⟨hnodup, _⟩ => h hnodup⟩

/-- The candidate polynomials are those of the combinations with distinct x. -/
theorem mem_candidates_iff {P d : Nat} {xs ys c : List Nat} : c ∈ (rsGroups P xs ys d).map Prod.fst ↔
    ∃ T ∈ combinations (d + 1) (List.range xs.length), (entriesAt xs T).Nodup ∧
      c = rsInterp P (entriesAt xs T) (entriesAt ys T) := by
  have hfold : ∀ Ts : List (List Nat), c ∈ (Ts.foldl (addVote P xs ys) []).map Prod.fst ↔
      ∃ T ∈ Ts, (entriesAt xs T).Nodup ∧ c = rsInterp P (entriesAt xs T) (entriesAt ys T) := by
    intro Ts
    induction Ts using List.reverseRecOn with
    | nil => simp
    | append_singleton Ts T ih =>
      rw [List.foldl_append, List.foldl_cons, List.foldl_nil, mem_candidates_addVote, ih]
      simp only [List.mem_append, List.mem_singleton, or_and_right, exists_or, exists_eq_left]
  exact hfold _

theorem candidate_length {P d : Nat} {xs ys c : List Nat} (h : c ∈ (rsGroups P xs ys d).map Prod.fst) :
    c.length = d + 1 := by
  obtain ⟨T, hT, -, rfl⟩ := mem_candidates_iff.1 h
  obtain ⟨-, hlen⟩ := mem_combinations_iff.1 hT
  rw [rsInterp_length, entriesAt_length, hlen]

/-- There is a group exactly when there are d + 1 different x. -/
theorem rsGroups_ne_nil_iff {P d : Nat} {xs ys : List Nat} :
    rsGroups P xs ys d ≠ [] ↔ d + 1 ≤ (List.dedup xs).length := by
  have hcandidate : rsGroups P xs ys d ≠ [] ↔ ∃ c, c ∈ (rsGroups P xs ys d).map Prod.fst := by
    rw [← not_iff_not, not_not, not_exists, ← List.eq_nil_iff_forall_not_mem, List.map_eq_nil_iff]
  rw [hcandidate, ← exists_combination_iff]
  simp only [mem_candidates_iff]
  exact ⟨fun ⟨_, T, hT, hnodup, _⟩ => ⟨T, hT, hnodup⟩,
    fun ⟨T, hT, hnodup⟩ => ⟨_, T, hT, hnodup, rfl⟩⟩

/-- The vote elects one of the groups. -/
theorem exists_bestGroup {groups : Groups} (h : groups ≠ []) : ∃ g ∈ groups, bestGroup groups = some g := by
  obtain ⟨g, rest, rfl⟩ := List.exists_cons_of_ne_nil h
  refine ⟨_, ?_, rfl⟩
  refine List.foldlRecOn rest _ (motive := (· ∈ g :: rest)) List.mem_cons_self fun best hbest g' hg' => ?_
  split
  next => exact List.mem_cons_of_mem _ hg'
  next => exact hbest

/-! ### The ends of `rsDecodeMV` (R242) -/

section
variable {P d : Nat} {xs ys : List Nat}

theorem rsDecodeMV_of_few (h : (List.dedup xs).length < d + 1) :
    rsDecodeMV P xs ys d = .error .wrongPointCount := by
  have hnil : rsGroups P xs ys d = [] := by
    by_contra hne
    exact absurd (rsGroups_ne_nil_iff.1 hne) (not_le.2 h)
  rw [rsDecodeMV, hnil]
  split <;> rfl

/-- With d + 1 different x the vote elects d + 1 coefficients, and flags indices of points in ascending order. -/
theorem rsDecodeMV_of_enough (h : d + 1 ≤ (List.dedup xs).length) : ∃ c flagged : List Nat,
    rsDecodeMV P xs ys d = .ok (c, flagged) ∧ c.length = d + 1 ∧ flagged.Pairwise (· < ·) ∧
      ∀ i ∈ flagged, i < xs.length := by
  obtain ⟨best, hbest, helect⟩ := exists_bestGroup (rsGroups_ne_nil_iff (P := P) (ys := ys).2 h)
  have hlen : ¬ xs.length < d + 1 := not_lt.2 (h.trans (List.dedup_sublist xs).length_le)
  refine ⟨_, (List.range xs.length).filter fun i => ∀ T ∈ best.2, i ∉ T, ?_,
    candidate_length (List.mem_map_of_mem hbest), List.pairwise_lt_range.filter _,
    fun i hi => List.mem_range.1 (List.mem_of_mem_filter hi)⟩
  rw [rsDecodeMV, if_neg hlen, helect]

end

end Sys2Proof.Machine
end

section
/-! SUPPORT. The commands of the RS unit: their checks in order, and what they write (R235, R237, R240, R243). -/

namespace Sys2Proof.Machine

/-! ### The points of a command (R232) -/

theorem Inv.rsp_eq {s : State} (hinv : Inv s) : s.rsp.toNat = 31 := by
  obtain ⟨-, -, -, hrsp⟩ := hinv.constants
  rw [hrsp]
  rfl

/-- The coordinates of the points lie in GF(31). -/
abbrev pointsInField (xs ys : List Byte) : Prop := (∀ x ∈ xs, x.toNat < 31) ∧ (∀ y ∈ ys, y.toNat < 31)

theorem elems_lt {xs : List Byte} (h : ∀ x ∈ xs, x.toNat < 31) : ∀ x ∈ elems xs, x < 31 :=
  List.forall_mem_map.2 h

theorem toNat_byte_injective : Function.Injective (BitVec.toNat : Byte → Nat) := fun _ _ => BitVec.eq_of_toNat_eq

theorem nodup_elems_iff {xs : List Byte} : (elems xs).Nodup ↔ xs.Nodup := List.nodup_map_iff toNat_byte_injective

theorem dedup_elems_length (xs : List Byte) : (List.dedup (elems xs)).length = (List.dedup xs).length := by
  rw [elems, List.dedup_map_of_injective toNat_byte_injective, List.length_map]

theorem finish_pointOperands_of_length_ne {s : State} {xs ys : List Byte}
    {f : List Nat × List Nat → Except Err State} (h : xs.length ≠ ys.length) :
    finish s (pointOperands s xs ys >>= f) = .next (raise .wrongOperandLength s) := by
  rw [pointOperands, if_neg h]
  rfl

section
variable {s : State} (hinv : Inv s) {xs ys : List Byte}
include hinv

/-- A command of the RS unit with different destinations goes on with the points in its written sources (R24, R23). -/
theorem Inv.requireLegal_readPoints_bind {i : Instr} (hdest : i.distinctDests = true) {vx vy : VReg}
    (hx : holdsV s vx xs) (hy : holdsV s vy ys) (f : List Byte → List Byte → Except Err State) :
    (requireLegal s i >>= fun _ => readV s vx >>= fun x => readV s vy >>= fun y => f x y) = f xs ys := by
  rw [hinv.requireLegal_eq_ok hdest, readV_eq_ok.2 hx, readV_eq_ok.2 hy]
  rfl

/-- A command of the RS unit also reads its degree. -/
theorem Inv.requireLegal_readPoints_readS_bind {i : Instr} (hdest : i.distinctDests = true) {vx vy : VReg} {sg : SReg}
    {d : Word} (hx : holdsV s vx xs) (hy : holdsV s vy ys) (hd : holdsS s sg d)
    (f : List Byte → List Byte → Word → Except Err State) :
    (requireLegal s i >>= fun _ => readV s vx >>= fun x => readV s vy >>= fun y => readS s sg >>= fun d => f x y d) =
      f xs ys d := by
  rw [hinv.requireLegal_readPoints_bind hdest hx hy, readS_eq_ok.2 hd]
  rfl

variable {f : List Nat × List Nat → Except Err State}

theorem Inv.finish_pointOperands_of_not_inField (hlen : xs.length = ys.length) (h : ¬ pointsInField xs ys) :
    finish s (pointOperands s xs ys >>= f) = .next (raise .elementOutOfRange s) := by
  rw [pointOperands, if_pos hlen, hinv.rsp_eq, if_neg h]
  rfl

theorem Inv.finish_pointOperands_of_inField (hlen : xs.length = ys.length) (h : pointsInField xs ys) :
    finish s (pointOperands s xs ys >>= f) = finish s (f (elems xs, elems ys)) := by
  rw [pointOperands_eq_ok.2 ⟨hlen, hinv.rsp_eq ▸ h, rfl⟩]
  rfl

theorem Inv.length_le_vlmax {v : VReg} (hx : holdsV s v xs) : xs.length ≤ s.vlmax.toNat := by
  have hfit := hinv.vectors_fit v
  rw [hx] at hfit
  rwa [hinv.vlmax_eq]

end

section
variable {s : State} {p : Prop} [Decidable p] {e : Err} {r : Except Err State}

theorem finish_ensure_of_pos (h : p) : finish s (ensure p e >>= fun _ => r) = finish s r := by
  rw [ensure_eq_ok.2 h]
  rfl

theorem finish_ensure_of_neg (h : ¬ p) : finish s (ensure p e >>= fun _ => r) = .next (raise e s) := by
  rw [ensure_eq_error.2 ⟨h, rfl⟩]
  rfl

end

/-! ### `RSINTERP` (R235) -/

theorem Inv.exec_rsinterp_of_holds {s : State} (hinv : Inv s) {vd vx vy : VReg} {xs ys : List Byte}
    (hx : holdsV s vx xs) (hy : holdsV s vy ys) : exec (.rsinterp vd vx vy) s =
    finish s (pointOperands s xs ys >>= fun q => ensure q.1.Nodup .duplicateX >>= fun _ =>
      putV s vd (rsInterp 31 q.1 q.2)) := by
  rw [← hinv.rsp_eq]
  exact congrArg (finish s) (hinv.requireLegal_readPoints_bind (i := .rsinterp vd vx vy) rfl hx hy _)

/-- Settles O54: the checks one after the other, and the coefficients fit a register because the points do. -/
theorem rsinterpWritesCoefficients : Obligations.RsinterpWritesCoefficients := by
  unfold Obligations.RsinterpWritesCoefficients
  intro vd vx vy s xs ys hinv hx hy
  rw [hinv.exec_rsinterp_of_holds hx hy]
  refine ⟨finish_pointOperands_of_length_ne, fun hlen =>
    ⟨hinv.finish_pointOperands_of_not_inField hlen, fun hfield hdup => ?repeated, fun hfield hnodup => ?distinct⟩⟩
  all_goals rw [hinv.finish_pointOperands_of_inField hlen hfield]
  case repeated => exact finish_ensure_of_neg (nodup_elems_iff.not.2 hdup)
  case distinct =>
    have hclen : (rsInterp 31 (elems xs) (elems ys)).length = xs.length := by rw [rsInterp_length, elems_length]
    refine ⟨_, rfl, hclen, ?_⟩
    rw [finish_ensure_of_pos (nodup_elems_iff.2 hnodup)]
    exact finish_putV_of_le (hclen.trans_le (hinv.length_le_vlmax hx))

/-! ### `RSVERIFY` (R237) -/

theorem Inv.exec_rsverify_of_holds {s : State} (hinv : Inv s) {sd : SReg} {vx vy vc : VReg} {xs ys c : List Byte}
    (hx : holdsV s vx xs) (hy : holdsV s vy ys) (hc : holdsV s vc c) : exec (.rsverify sd vx vy vc) s =
    finish s (pointOperands s xs ys >>= fun q => ensure (∀ e ∈ c, e.toNat < 31) .elementOutOfRange >>= fun _ =>
      .ok (putS s sd (if rsVerify 31 q.1 q.2 (elems c) then 1 else 0))) := by
  rw [← hinv.rsp_eq]
  refine congrArg (finish s) ((hinv.requireLegal_readPoints_bind (i := .rsverify sd vx vy vc) rfl hx hy _).trans ?_)
  rw [readV_eq_ok.2 hc]
  rfl

/-- Verification on the entries of registers, by the plain sum. -/
theorem rsVerify_elems_iff {xs ys c : List Byte} : rsVerify 31 (elems xs) (elems ys) (elems c) = true ↔
    ∀ p ∈ xs.zip ys, (c.mapIdx fun j e => e.toNat * p.1.toNat ^ j).sum % 31 = p.2.toNat := by
  rw [rsVerify_iff_zip, elems, elems, List.zip_map, List.forall_mem_map]
  refine forall₂_congr fun p _ => ?_
  have hsum : rsEval 31 (elems c) p.1.toNat = (c.mapIdx fun j e => e.toNat * p.1.toNat ^ j).sum % 31 := by
    have hterms : ((elems c).mapIdx fun j e => e * p.1.toNat ^ j) = c.mapIdx fun j e => e.toNat * p.1.toNat ^ j :=
      List.ext_getElem (by simp) fun j _ _ => by simp [elems]
    rw [rsEval_eq_sum_mod, hterms]
  rw [Prod.map_fst, Prod.map_snd, hsum]

/-- Settles O56: the comparison of every point is the plain sum modulo 31. -/
theorem rsverifyComparesEveryPoint : Obligations.RsverifyComparesEveryPoint := by
  unfold Obligations.RsverifyComparesEveryPoint
  intro sd vx vy vc s xs ys c hinv hx hy hc
  rw [hinv.exec_rsverify_of_holds hx hy hc]
  refine ⟨finish_pointOperands_of_length_ne, fun hlen => ⟨fun hbad => ?outside, ?inside⟩⟩
  case outside =>
    by_cases hfield : pointsInField xs ys
    · rw [hinv.finish_pointOperands_of_inField hlen hfield]
      obtain ⟨hxs, hys⟩ := hfield
      exact finish_ensure_of_neg fun hcs => hbad ⟨hxs, hys, hcs⟩
    · exact hinv.finish_pointOperands_of_not_inField hlen hfield
  case inside =>
    rintro ⟨hxs, hys, hcs⟩ b hb
    rw [hinv.finish_pointOperands_of_inField hlen ⟨hxs, hys⟩, finish_ensure_of_pos hcs]
    obtain ⟨rfl, hfit⟩ | ⟨rfl, p, hp, hmiss⟩ := hb
    · rw [if_pos (rsVerify_elems_iff.2 hfit)]
      rfl
    · rw [if_neg fun hfit => hmiss (rsVerify_elems_iff.1 hfit p hp)]
      rfl

/-! ### `RSDEC` (R240) -/

theorem Inv.exec_rsdec_of_holds {s : State} (hinv : Inv s) {vc : VReg} {sl se : SReg} {vx vy : VReg} {sg : SReg}
    {xs ys : List Byte} {d : Word} (hne : sl ≠ se) (hx : holdsV s vx xs) (hy : holdsV s vy ys) (hd : holdsS s sg d) :
    exec (.rsdec vc sl se vx vy sg) s =
    finish s (pointOperands s xs ys >>= fun q => ensure (0 ≤ d.toInt) .indexOutOfRange >>= fun _ =>
      rsDecode 31 q.1 q.2 d.toInt.toNat >>= fun r => putV s vc r.1 >>= fun u =>
        .ok (putS (putS u sl r.2.1) se r.2.2)) := by
  have hdest : (Instr.rsdec vc sl se vx vy sg).distinctDests = true := by
    simp [Instr.distinctDests, Instr.scalarDests, Instr.vectorDests, hne]
  rw [← hinv.rsp_eq]
  exact congrArg (finish s) (hinv.requireLegal_readPoints_readS_bind hdest hx hy hd _)

/-- The degree of a decode as a natural number. -/
theorem toNat_toInt_of_nonneg {d : Word} (h : 0 ≤ d.toInt) :
    d.toInt.toNat = d.toNat ∧ (d.toNat : Int) = d.toInt := by
  have heq : d.toInt = d.toNat := by
    rw [BitVec.toInt_eq_toNat_cond] at h ⊢
    split at h <;> omega
  omega

/-- Settles O57: with enough points the decode answers, and its coefficients fit a register because the points do. -/
theorem rsdecWritesWhatItDecodes : Obligations.RsdecWritesWhatItDecodes := by
  unfold Obligations.RsdecWritesWhatItDecodes
  intro vc sl se vx vy sg s xs ys d hinv hx hy hd hne
  rw [hinv.exec_rsdec_of_holds hne hx hy hd]
  refine ⟨finish_pointOperands_of_length_ne, fun hlen =>
    ⟨hinv.finish_pointOperands_of_not_inField hlen, fun hfield => ?_⟩⟩
  rw [hinv.finish_pointOperands_of_inField hlen hfield]
  dsimp only
  have hcount : (dedup (elems xs) (elems ys)).length = (List.dedup xs).length := by
    rw [dedup_length (by simpa using hlen), dedup_elems_length]
  refine ⟨fun hneg => finish_ensure_of_neg (not_le.2 hneg), fun hpos hfew => ?few, fun hpos henough => ?enough⟩
  all_goals
    obtain ⟨hnat, hint⟩ := toNat_toInt_of_nonneg hpos
    rw [finish_ensure_of_pos hpos, hnat]
  case few =>
    rw [rsDecode_of_few (by omega)]
    rfl
  case enough =>
    obtain ⟨hxs, hys⟩ := hfield
    obtain ⟨c, loc, cnt, hdec, hclen, hcnt⟩ := rsDecode_of_enough (d := d.toNat) (elems_lt hxs) (elems_lt hys)
      (by simpa using hlen) (by omega)
    have hfit : c.length ≤ s.vlmax.toNat := by
      have hxl := hinv.length_le_vlmax hx
      have hdl := (List.dedup_sublist xs).length_le
      omega
    refine ⟨c, loc, cnt, hdec, by omega, hcnt, ?_⟩
    rw [hdec]
    exact finish_eq_complete (t := putS (putS (s.setVector vc (toBytes c)) sl loc) se cnt)
      (bind_eq_ok.2 ⟨_, rfl, bind_eq_ok.2 ⟨_, putV_eq_ok.2 ⟨hfit, rfl⟩, rfl⟩⟩)

/-! ### `RSDECMV` (R243) -/

theorem Inv.exec_rsdecmv_of_holds {s : State} (hinv : Inv s) {vc vl : VReg} {se : SReg} {vx vy : VReg} {sg : SReg}
    {xs ys : List Byte} {d : Word} (hne : vc ≠ vl) (hx : holdsV s vx xs) (hy : holdsV s vy ys) (hd : holdsS s sg d) :
    exec (.rsdecmv vc vl se vx vy sg) s =
    finish s (pointOperands s xs ys >>= fun q => ensure (0 ≤ d.toInt) .indexOutOfRange >>= fun _ =>
      ensure (q.1.length ≤ 256) .lengthOverflow >>= fun _ =>
      rsDecodeMV 31 q.1 q.2 d.toInt.toNat >>= fun r => putV s vc r.1 >>= fun u => putV u vl r.2 >>= fun u' =>
        .ok (putS u' se r.2.length)) := by
  have hdest : (Instr.rsdecmv vc vl se vx vy sg).distinctDests = true := by
    simp [Instr.distinctDests, Instr.scalarDests, Instr.vectorDests, hne]
  rw [← hinv.rsp_eq]
  exact congrArg (finish s) (hinv.requireLegal_readPoints_readS_bind hdest hx hy hd _)

/-- Settles O59: with enough different x the vote elects a group, and all that it writes fits a register because the
points do. -/
theorem rsdecmvWritesWhatItDecodes : Obligations.RsdecmvWritesWhatItDecodes := by
  unfold Obligations.RsdecmvWritesWhatItDecodes
  intro vc vl se vx vy sg s xs ys d hinv hx hy hd hne
  rw [hinv.exec_rsdecmv_of_holds hne hx hy hd]
  refine ⟨finish_pointOperands_of_length_ne, fun hlen =>
    ⟨hinv.finish_pointOperands_of_not_inField hlen, fun hfield => ?_⟩⟩
  rw [hinv.finish_pointOperands_of_inField hlen hfield]
  dsimp only
  rw [elems_length]
  have hcount := dedup_elems_length xs
  refine ⟨fun hneg => finish_ensure_of_neg (not_le.2 hneg), fun hpos hlong => ?long, fun hpos hshort hfew => ?few,
    fun hpos hshort henough => ?enough⟩
  all_goals
    obtain ⟨hnat, hint⟩ := toNat_toInt_of_nonneg hpos
    rw [finish_ensure_of_pos hpos]
  case long => exact finish_ensure_of_neg (not_le.2 hlong)
  case few =>
    rw [finish_ensure_of_pos hshort, hnat, rsDecodeMV_of_few (by omega)]
    rfl
  case enough =>
    rw [finish_ensure_of_pos hshort, hnat]
    obtain ⟨c, flagged, hdec, hclen, hasc, hlt⟩ := rsDecodeMV_of_enough (P := 31) (xs := elems xs) (ys := elems ys)
      (d := d.toNat) (by omega)
    rw [elems_length] at hlt
    have hxl := hinv.length_le_vlmax hx
    have hcfit : c.length ≤ s.vlmax.toNat := by
      have hdl := (List.dedup_sublist xs).length_le
      omega
    have hflfit : flagged.length ≤ s.vlmax.toNat := by
      have hfl := (sublist_range_iff.2 ⟨hasc, hlt⟩).length_le
      rw [List.length_range] at hfl
      omega
    refine ⟨c, flagged, hdec, by omega, hasc, hlt, ?_⟩
    rw [hdec]
    rw [← BitVec.ofInt_natCast]
    exact finish_eq_complete (t := putS ((s.setVector vc (toBytes c)).setVector vl (toBytes flagged)) se flagged.length)
      (bind_eq_ok.2 ⟨_, rfl, bind_eq_ok.2 ⟨_, putV_eq_ok.2 ⟨hcfit, rfl⟩,
        bind_eq_ok.2 ⟨_, putV_eq_ok.2 ⟨hflfit, rfl⟩, rfl⟩⟩⟩)

end Sys2Proof.Machine
end

section
/-! SUPPORT. The system and data movement commands: each reads its written sources, checks them in order, and writes one
register (R260 to R269). -/

namespace Sys2Proof.Machine

/-! ### How the commands end -/

/-- A scalar register that is written with a word holds it when the command has ended (R23, R305). -/
theorem complete_setScalar (s : State) (r : SReg) (x : Word) : complete (s.setScalar r x) = wroteS s r x := rfl

/-- A vector register that is written holds the sequence when the command has ended (R23, R305). -/
theorem complete_setVector (s : State) (r : VReg) (xs : List Byte) : complete (s.setVector r xs) = wroteV s r xs := rfl

/-- A rule that goes on with the entries of a written vector register (R23). -/
theorem readV_bind {s : State} {va : VReg} {xs : List Byte} (hx : holdsV s va xs) (f : List Byte → Except Err State) :
    (readV s va >>= f) = f xs := by
  rw [readV_eq_ok.2 hx]
  rfl

/-- The low byte of a non-negative word is that of its integer (R13, R22). -/
theorem ofInt_toInt_eq_setWidth {x : Word} (h : 0 ≤ x.toInt) : BitVec.ofInt 8 x.toInt = x.setWidth 8 := by
  rw [toInt_eq_toNat_of_nonneg h, BitVec.ofInt_natCast, BitVec.ofNat_toNat]

/-! ### `NOP`, `CLRERR`, `SLI` and `SMOV` (R260, R264, R261, R262) -/

theorem exec_nop_eq (s : State) : exec .nop s = .next (complete s) := rfl

theorem exec_clrerr_eq (s : State) : exec .clrerr s = .next (complete (clearSticky s)) := rfl

theorem exec_sli_eq (sd : SReg) (imm : BitVec 16) (s : State) :
    exec (.sli sd imm) s = .next (complete (putS s sd imm.toInt)) := rfl

theorem exec_smov_of_holds {sd sa : SReg} {s : State} {x : Word} (hx : holdsS s sa x) :
    exec (.smov sd sa) s = .next (complete (putS s sd x.toInt)) :=
  congrArg (finish s) (readS_bind hx _)

/-- Settles O19: the four commands have no check, and a write of an integer keeps the word it was read from. -/
theorem systemCommandsComplete : Obligations.SystemCommandsComplete := by
  unfold Obligations.SystemCommandsComplete
  refine ⟨exec_nop_eq, exec_clrerr_eq, fun sd imm s => ?sli, fun sd sa s x hx => ?smov⟩
  case sli => rw [exec_sli_eq, complete_putS, BitVec.signExtend]
  case smov => rw [exec_smov_of_holds hx, complete_putS, BitVec.ofInt_toInt]

/-! ### `RDCR` (R263) -/

section
variable {s : State}

theorem exec_rdcr_of_value {cr : BitVec 16} {x : Word} (h : readCR s cr.toNat = .ok x) (sd : SReg) :
    exec (.rdcr sd cr) s = .next (wroteS s sd x) := by
  rw [exec_rdcr_eq, h, ← complete_setScalar]
  rfl

theorem exec_rdcr_of_error {cr : BitVec 16} {e : Err} (h : readCR s cr.toNat = .error e) (sd : SReg) :
    exec (.rdcr sd cr) s = .next (raise e s) := by
  rw [exec_rdcr_eq, h]
  rfl

/-- `M`, `PRIM` and `N` are valid from `STATE` 1 on (R29, R31). -/
theorem readCR_field_of_configured (h : s.state ≠ stUnconfigured) :
    readCR s 5 = .ok (s.m.setWidth 32) ∧ readCR s 6 = .ok (s.prim.setWidth 32) ∧
      readCR s 7 = .ok (s.n.setWidth 32) :=
  ⟨if_neg h, if_neg h, if_neg h⟩

theorem readCR_field_of_unconfigured (h : s.state = stUnconfigured) :
    readCR s 5 = .error .notConfigured ∧ readCR s 6 = .error .notConfigured ∧ readCR s 7 = .error .notConfigured :=
  ⟨if_pos h, if_pos h, if_pos h⟩

/-- `T` and `K` are valid from `STATE` 2 on (R29, R31). -/
theorem readCR_codec_of_ready (h : 2 ≤ s.state.toNat) :
    readCR s 8 = .ok (s.t.setWidth 32) ∧ readCR s 9 = .ok (s.k.setWidth 32) :=
  ⟨if_neg (not_lt.2 h), if_neg (not_lt.2 h)⟩

theorem readCR_codec_of_not_ready (h : s.state.toNat < 2) :
    readCR s 8 = .error .notConfigured ∧ readCR s 9 = .error .notConfigured :=
  ⟨if_pos h, if_pos h⟩

/-- The control registers are numbered 0 to 12 (R29). -/
theorem readCR_of_unlisted : ∀ {c : Nat}, 12 < c → readCR s c = .error .indexOutOfRange
  | _ + 13, _ => rfl

/-- A `STATE` of at least 1 is not `UNCONFIGURED` (R31). -/
theorem ne_stUnconfigured_of_one_le (h : 1 ≤ s.state.toNat) : s.state ≠ stUnconfigured :=
  BitVec.toNat_ne_iff_ne.1 (Nat.ne_of_gt h)

end

/-- Settles O20: `RDCR` ends as the read of the control register does, which depends on its number and on `STATE`. -/
theorem rdcrReadsControlRegisters : Obligations.RdcrReadsControlRegisters := by
  unfold Obligations.RdcrReadsControlRegisters
  intro sd s
  refine ⟨exec_rdcr_of_value rfl sd, exec_rdcr_of_value rfl sd, exec_rdcr_of_value rfl sd, exec_rdcr_of_value rfl sd,
    exec_rdcr_of_value rfl sd, fun h => ?field, fun h => ?codec, exec_rdcr_of_value rfl sd, exec_rdcr_of_value rfl sd,
    exec_rdcr_of_value rfl sd, fun cr hcr h => ?noField, fun cr hcr h => ?noCodec,
    fun cr h => exec_rdcr_of_error (readCR_of_unlisted h) sd⟩
  case field =>
    obtain ⟨hm, hprim, hn⟩ := readCR_field_of_configured (ne_stUnconfigured_of_one_le h)
    exact ⟨exec_rdcr_of_value hm sd, exec_rdcr_of_value hprim sd, exec_rdcr_of_value hn sd⟩
  case codec =>
    obtain ⟨ht, hk⟩ := readCR_codec_of_ready h
    exact ⟨exec_rdcr_of_value ht sd, exec_rdcr_of_value hk sd⟩
  case noField =>
    obtain ⟨hm, hprim, hn⟩ := readCR_field_of_unconfigured h
    simp only [List.mem_cons, List.not_mem_nil, or_false] at hcr
    obtain rfl | rfl | rfl := hcr
    · exact exec_rdcr_of_error hm sd
    · exact exec_rdcr_of_error hprim sd
    · exact exec_rdcr_of_error hn sd
  case noCodec =>
    obtain ⟨ht, hk⟩ := readCR_codec_of_not_ready h
    simp only [List.mem_cons, List.not_mem_nil, or_false] at hcr
    obtain rfl | rfl := hcr
    · exact exec_rdcr_of_error ht sd
    · exact exec_rdcr_of_error hk sd

/-! ### `VZERO` (R265) -/

theorem exec_vzero_of_holds {vd : VReg} {sa : SReg} {s : State} {x : Word} (hx : holdsS s sa x) :
    exec (.vzero vd sa) s =
    finish s (ensure (0 ≤ x.toInt) .indexOutOfRange >>= fun _ =>
      ensure (x.toInt ≤ s.vlmax.toNat) .lengthOverflow >>= fun _ =>
      .ok (s.setVector vd (List.replicate x.toInt.toNat 0))) :=
  congrArg (finish s) (readS_bind hx _)

/-- Settles O21: the two checks of L one after the other; a length above `VLMAX` has passed the first. -/
theorem vzeroWritesZeros : Obligations.VzeroWritesZeros := by
  unfold Obligations.VzeroWritesZeros
  intro vd sa s x hx
  rw [exec_vzero_of_holds hx]
  refine ⟨fun hpos hfit => ?fits, fun hneg => finish_ensure_of_neg (not_le.2 hneg), fun hlong => ?long⟩
  case fits =>
    obtain ⟨hnat, -⟩ := toNat_toInt_of_nonneg hpos
    rw [finish_ensure_of_pos hpos, finish_ensure_of_pos hfit, finish_ok, complete_setVector, hnat]
    rfl
  case long =>
    have hpos : 0 ≤ x.toInt := (Int.natCast_nonneg _).trans hlong.le
    rw [finish_ensure_of_pos hpos]
    exact finish_ensure_of_neg (not_le.2 hlong)

/-! ### `VSET` (R266) -/

theorem exec_vset_of_holds {vd : VReg} {sa sb : SReg} {s : State} {i x : Word} {old : List Byte}
    (hi : holdsS s sa i) (hx : holdsS s sb x) (hold : holdsV s vd old) : exec (.vset vd sa sb) s =
    finish s (ensure (0 ≤ i.toInt ∧ i.toInt < old.length) .indexOutOfRange >>= fun _ =>
      ensure (0 ≤ x.toInt ∧ x.toInt ≤ 255) .elementOutOfRange >>= fun _ =>
      .ok (s.setVector vd (old.set i.toInt.toNat (BitVec.ofInt 8 x.toInt)))) :=
  congrArg (finish s) ((readS_bind hi _).trans ((readS_bind hx _).trans (readV_bind hold _)))

/-- Settles O22: the index is checked before the value. -/
theorem vsetReplacesOneEntry : Obligations.VsetReplacesOneEntry := by
  unfold Obligations.VsetReplacesOneEntry
  intro vd sa sb s i x old hi hx hold
  rw [exec_vset_of_holds hi hx hold]
  refine ⟨fun hi0 hilt hx0 hxle => ?replaced, finish_ensure_of_neg, fun hindex hvalue => ?outside⟩
  case replaced =>
    obtain ⟨hnat, -⟩ := toNat_toInt_of_nonneg hi0
    rw [finish_ensure_of_pos ⟨hi0, hilt⟩, finish_ensure_of_pos ⟨hx0, hxle⟩, finish_ok, complete_setVector, hnat,
      ofInt_toInt_eq_setWidth hx0]
  case outside =>
    rw [finish_ensure_of_pos hindex]
    exact finish_ensure_of_neg hvalue

/-! ### `VGET`, `VLEN` and `VMOV` (R267, R268, R269) -/

section
variable {va : VReg} {s : State} {xs : List Byte}

theorem exec_vget_of_holds {sd sb : SReg} {i : Word} (hi : holdsS s sb i) (hx : holdsV s va xs) :
    exec (.vget sd va sb) s =
    finish s (ensure (0 ≤ i.toInt ∧ i.toInt < xs.length) .indexOutOfRange >>= fun _ =>
      .ok (putS s sd ((elems xs).getD i.toInt.toNat 0))) :=
  congrArg (finish s) ((readS_bind hi _).trans (readV_bind hx _))

theorem exec_vlen_of_holds {sd : SReg} (hx : holdsV s va xs) :
    exec (.vlen sd va) s = .next (complete (putS s sd xs.length)) :=
  congrArg (finish s) (readV_bind hx _)

theorem exec_vmov_of_holds {vd : VReg} (hx : holdsV s va xs) :
    exec (.vmov vd va) s = .next (complete (s.setVector vd xs)) :=
  congrArg (finish s) (readV_bind hx _)

end

/-- Settles O23: `VGET` has one check, of the index; `VLEN` and `VMOV` have none. -/
theorem vgetVlenAndVmovReadVectors : Obligations.VgetVlenAndVmovReadVectors := by
  unfold Obligations.VgetVlenAndVmovReadVectors
  intro va s xs hx
  refine ⟨fun sd sb i hi => ?vget, fun sd => ?vlen, fun vd => exec_vmov_of_holds hx⟩
  case vget =>
    rw [exec_vget_of_holds hi hx]
    refine ⟨fun hlt hpos => ?_, finish_ensure_of_neg⟩
    obtain ⟨hnat, hint⟩ := toNat_toInt_of_nonneg hpos
    rw [finish_ensure_of_pos ⟨hpos, by omega⟩, finish_ok, complete_putS, hnat, getD_elems,
      List.getD_eq_getElem _ _ hlt, ofInt_toNat_eq_setWidth]
  case vlen => rw [exec_vlen_of_holds hx, complete_putS, BitVec.ofInt_natCast]

end Sys2Proof.Machine
end

section
/-! SUPPORT. How a command ends (60_exceptions.md): what one that raises an error has changed, what one that raises
nothing leaves alone, and the check of `STATE`, which stands before every read of an operand (R303, R305, R306). -/

namespace Sys2Proof.Machine

/-! ### The end of a command, from its effect -/

/-- A command that ends with an error raises it in the state it was issued in, or in the one a construction had made
before it stopped: `GFINIT` with the old field ended, `BCHINIT` with the old codec ended (R305, R306). -/
theorem Effect.Allowed.run_eq_raise {E : Effect} {i : Instr} {s : State} (h : E.Allowed i s)
    (herr : (E.run s).err ≠ 0) :
    ∃ e : Err, E.run s = raise e s ∨
      ((∃ sa sb, i = .gfinit sa sb) ∧ (e = .unsupportedFieldDegree ∨ e = .invalidParameters) ∧
        E.run s = raise e s.dropField) ∨
      ((∃ sa, i = .bchinit sa) ∧ 1 ≤ s.state.toNat ∧ E.run s = raise e s.dropCodec) := by
  cases E with
  | error e => exact ⟨e, .inl rfl⟩
  | noField e =>
    obtain ⟨hi, he⟩ := h
    exact ⟨e, .inr (.inl ⟨hi, he, rfl⟩)⟩
  | noCodec e =>
    obtain ⟨hi, hstate⟩ := h
    exact ⟨e, .inr (.inr ⟨hi, hstate, rfl⟩)⟩
  | writes | clear | field | codec => exact absurd rfl herr

/-- A command that raises nothing leaves `ERRSTICKY` alone, but for `CLRERR` (R305, R264). -/
theorem Effect.Allowed.run_errsticky {E : Effect} {i : Instr} {s : State} (h : E.Allowed i s)
    (herr : (E.run s).err = 0) : (E.run s).errsticky = s.errsticky ∨ i = .clrerr := by
  cases E with
  | clear => exact .inr h
  | writes ws => exact .inl (applyWrites_errsticky s ws)
  | field | codec => exact .inl rfl
  | error e => exact absurd herr (raise_err_ne_zero e s)
  | noField e | noCodec e => exact absurd herr (raise_err_ne_zero e _)

/-- The two errors of a refused `GFINIT` have the codes 1 and 2 (R301). -/
theorem Err.code_of_refused {e : Err} (h : e = .unsupportedFieldDegree ∨ e = .invalidParameters) :
    e.code = 1 ∨ e.code = 2 := by
  obtain rfl | rfl := h
  · exact .inl rfl
  · exact .inr rfl

/-- Settles O7: a command ends as its effect does, and an error is raised where `Effect.Allowed.run_eq_raise` says; the
ends of a field and of a codec touch neither the registers nor `ERRSTICKY`. -/
theorem errorsChangeOnlyTheStatus : Obligations.ErrorsChangeOnlyTheStatus := by
  unfold Obligations.ErrorsChangeOnlyTheStatus
  intro i s
  obtain ⟨E, hE⟩ := exec_effect i s
  have hallowed : E.Allowed i s := hE.1
  refine ⟨E.run s, hE.exec_eq, fun herr => ?raised, hallowed.run_errsticky⟩
  case raised =>
    obtain ⟨e, hrun⟩ := hallowed.run_eq_raise herr
    obtain ⟨hlow, hhigh⟩ := e.code_bounds
    refine ⟨e.code, hlow, hhigh, ?_⟩
    rcases hrun with hrun | ⟨⟨sa, sb, hi⟩, he, hrun⟩ | ⟨⟨sa, hi⟩, hstate, hrun⟩
    all_goals rw [hrun]
    · exact ⟨rfl, rfl, rfl, rfl, .inl rfl⟩
    · exact ⟨rfl, rfl, rfl, rfl, .inr (.inl ⟨sa, sb, hi, Err.code_of_refused he, rfl, rfl⟩)⟩
    · exact ⟨rfl, rfl, rfl, rfl, .inr (.inr ⟨sa, hi, ne_stUnconfigured_of_one_le hstate, rfl, rfl⟩)⟩

/-! ### The check of `STATE` -/

section
variable {s : State} {least : Nat}

theorem requireState_of_lt (h : s.state.toNat < least) : requireState s least = .error .notConfigured :=
  ensure_eq_error.2 ⟨not_le.2 h, rfl⟩

/-- A rule that begins with the check of `STATE` ends there below the least one (R303). -/
theorem finish_requireState_of_lt {f : Unit → Except Err State} (h : s.state.toNat < least) :
    finish s (requireState s least >>= f) = .next (raise .notConfigured s) :=
  finish_eq_raise (bind_eq_error.2 (.inl (requireState_of_lt h)))

/-- A rule that checks its term before `STATE` ends at the second check when a word spells the term (R303). -/
theorem finish_requireLegal_requireState_of_lt {i : Instr} {f : Unit → Except Err State}
    (hw : WellFormed s.feat i = true) (h : s.state.toNat < least) :
    finish s (requireLegal s i >>= fun _ => requireState s least >>= f) = .next (raise .notConfigured s) :=
  finish_eq_raise (bind_eq_error.2 (.inr ⟨(), ensure_eq_ok.2 hw, bind_eq_error.2 (.inl (requireState_of_lt h))⟩))

end

/-- Every command that needs a `STATE` checks it before it reads an operand (R303). -/
theorem exec_of_state_lt {i : Instr} {s : State} (hw : WellFormed s.feat i = true)
    (h : s.state.toNat < i.leastState) : exec i s = .next (raise .notConfigured s) := by
  cases i with
  | nop | sli | smov | rdcr | clrerr | vzero | vset | vget | vlen | vmov | gfinit | pdeg | rsinterp | rsverify | rsdec
  | rsdecmv => exact absurd h (Nat.not_lt_zero _)
  | pdiv | cosets | dec | decbm | decmg => exact finish_requireLegal_requireState_of_lt hw h
  | bchinit => exact exec_bchinit_of_error (bind_eq_error.2 (.inl (requireState_of_lt h)))
  | gfadd | gfmul | gfpow | gfinv | ldexp | ldlog | pmul | pgcd | plcm | minpoly | genpoly | ldgen | enc | synd
  | peterson | chien => exact finish_requireState_of_lt h

/-- Settles O8: `NotConfigured` has the code 7. -/
theorem notConfiguredComesFirst : Obligations.NotConfiguredComesFirst := by
  unfold Obligations.NotConfiguredComesFirst
  exact fun i s hw h => exec_of_state_lt hw h

end Sys2Proof.Machine
end

section
/-! SUPPORT. Reset and the waiting engine (70_reset_and_hazards.md): what `RDCR` answers while nothing is configured, a
step with no port operation, and where `HostReset` leads (R42, R340, R341). -/

namespace Sys2Proof.Machine

section
variable {s : State}

/-- In `STATE` 0 none of `M`, `PRIM`, `N`, `T`, `K` is valid: the codec's are not where even the field's are not (R29,
R31). -/
theorem exec_rdcr_of_unconfigured (h : s.state = 0) (sd : SReg) {cr : BitVec 16} (hcr : cr ∈ [5#16, 6, 7, 8, 9]) :
    exec (.rdcr sd cr) s = .next (raise .notConfigured s) := by
  obtain ⟨-, -, -, -, -, -, -, -, -, -, hfield, hcodec, -⟩ := rdcrReadsControlRegisters sd s
  have hnotReady : s.state.toNat < 2 := by simp [h]
  have hsplit : cr ∈ [5#16, 6, 7] ∨ cr ∈ [8#16, 9] := List.mem_append.1 hcr
  obtain hcr | hcr := hsplit
  · exact hfield cr hcr h
  · exact hcodec cr hcr hnotReady

/-- With no port operation to perform the engine waits (R341). -/
theorem step_of_port_nil (h : s.port = []) : step s = .next s := by
  simp only [step, takeOp, h]

/-- In a state of the build with R6's values, `HostReset` keeps the constants that the state after reset has (R37, R42). -/
theorem hostReset_of_same_build (hident : s.ident = State.reset.ident) (hfeat : s.feat = State.reset.feat)
    (hvlmax : s.vlmax = State.reset.vlmax) (hrsp : s.rsp = State.reset.rsp)
    (hprims : s.defaultPrims = State.reset.defaultPrims) :
    hostReset s = { State.reset with port := s.port, freeIdx := s.freeIdx } := by
  rw [hostReset, hident, hfeat, hvlmax, hrsp, hprims]

end

/-- Settles O16: the state after reset is read off field by field, its `STATE` 0 makes `RDCR` raise `NotConfigured` and
its empty port makes the engine wait; a step that resets is `hostReset` of the state without that operation. -/
theorem resetState : Obligations.ResetState := by
  unfold Obligations.ResetState
  obtain ⟨⟨hscalars, hvectors⟩, -⟩ := unwrittenRegisters
  refine ⟨hscalars, hvectors, rfl, rfl, rfl, fun sd _ hcr => exec_rdcr_of_unconfigured rfl sd hcr, rfl, rfl, rfl, rfl,
    rfl, rfl, rfl, rfl, rfl, step_of_port_nil rfl, fun s rest hp => ⟨step_reset hp, ?sameBuild⟩⟩
  case sameBuild =>
    intro hident hfeat hvlmax hrsp hprims
    rw [step_reset hp, hostReset_of_same_build (s := { s with port := rest }) hident hfeat hvlmax hrsp hprims]

end Sys2Proof.Machine
end
